-- ==== Sys2Proof/Word.lean ====
section
/-! DEFINITION. Bytes, station numbers and the model's units of time. -/

namespace Sys2Proof

/-- One byte of a payload, a sample or the configuration memory. -/
abbrev Byte := BitVec 8

/-- A station number, 0 to 15 (02 R24, 03 R47). -/
abbrev Station := Fin 16

/-- A set of seat words in the wire's coding: SEAT1 to SEAT6 in bits 0 to 5, bits 6 and 7 zero (12 R197). -/
abbrev SeatSet := BitVec 8

/-- A moment of the model's time base, in microseconds (log 3). -/
abbrev Time := Nat

/-- So many milliseconds, in the unit of the time base. -/
abbrev ms (n : Nat) : Time := n * 1000

/-- So many seconds, in the unit of the time base. -/
abbrev sec (n : Nat) : Time := n * 1000000

end Sys2Proof
end

