-- ==== Sys2Proof/Config.lean ====
section
/-! DEFINITION. What the configuration memory and the straps fix, and the free values. -/

namespace Sys2Proof

/-- Role strap (03 R47). -/
inductive StrapRole where
  | head
  | bay
  deriving DecidableEq, Repr

/-- The straps sampled when a reset ends (03 R47). -/
structure Straps where
  station : Station
  role : StrapRole
  sign : Bool
  odometer : Bool
  deriving DecidableEq, Repr

/-- One band of the tariff table, in minor units (04 R64). -/
structure Band where
  flagFall : Nat
  solo : Nat
  shared1 : Nat
  shared2 : Nat
  shared3 : Nat
  shared4 : Nat
  waiting : Nat
  deriving DecidableEq, Repr

/-- One window of the band schedule (04 R65). `days` has Monday as its most significant of 7 bits. -/
structure Window where
  days : BitVec 7
  start : Nat
  stop : Nat
  band : Nat
  deriving DecidableEq, Repr

/-- One code of the extras table (04 R66). -/
structure ExtraCode where
  amount : Nat
  once : Bool
  deriving DecidableEq, Repr

/-- Where an alert kind goes (07 R117). -/
inductive Route where
  | none
  | console
  | bay
  | both
  deriving DecidableEq, Repr

/-- The class of an alert (07 R117). -/
inductive AlertClass where
  | normal
  | urgent
  deriving DecidableEq, Repr

/-- One entry of the routing map (07 R117). -/
structure RouteEntry where
  route : Route
  cls : AlertClass
  deriving DecidableEq, Repr

/-- The fields of the configuration memory map (12 section 12.8), as the node takes them in CONFIG (03 R48). -/
structure Cfg where
  vehicleId : BitVec 32
  seatMask : SeatSet
  passengerStart : Bool
  metresPerUnit : Nat
  driveQuietQ : Nat
  pulsesPerUnit : Nat
  floorLimit : Nat
  offlineCap : Nat
  bands : List Band
  windows : List Window
  extras : List ExtraCode
  routes : List RouteEntry
  digestFirst : Nat
  digestLast : Nat
  deriving DecidableEq, Repr

/-- A band whose every amount is 0. -/
def Band.zero : Band := ⟨0, 0, 0, 0, 0, 0, 0⟩

/-- The configuration a node holds before it has ever read one: DESIGN CHOICE (log 4). -/
def Cfg.blank : Cfg where
  vehicleId := 0
  seatMask := 0
  passengerStart := false
  metresPerUnit := 1
  driveQuietQ := 1
  pulsesPerUnit := 1
  floorLimit := 0
  offlineCap := 0
  bands := [Band.zero]
  windows := []
  extras := []
  routes := []
  digestFirst := 0
  digestLast := 0

/-- FREE VALUE (log 7): the date-time the vehicle clock shows after the last second of 2099. Nothing in the spec
states it; the clock reads it modulo the last instant, so that its range (04 R67) holds. -/
opaque Config.clockAfterEnd : Nat → Nat

/-- FREE VALUE (log 24): the companded code for zero amplitude (08 R139). The manual does not name the codec's companding law. -/
opaque Config.silence : Byte

end Sys2Proof
end

