-- ==== Sys2Proof/Syntax/Types.lean ====
section
/-! DEFINITION. The values that travel in frames, requests and records: the operands of the commands. -/

namespace Sys2Proof

/-- Roster role (01 R2). -/
inductive Role where
  | head
  | bay
  | gateway
  | depot
  | other
  deriving DecidableEq, Repr

/-- State of a roster entry (01 R2). -/
inductive EntryState where
  | joining
  | inService
  | listener
  deriving DecidableEq, Repr

/-- Mode of a hiring (01 R4). -/
inductive Mode where
  | solo
  | shared
  deriving DecidableEq, Repr

/-- The states of a hiring that a frame can carry (01 R21). -/
inductive HireState where
  | running
  | held
  | paying
  deriving DecidableEq, Repr

/-- State of a hiring-roster entry; the prior state is present only while ORPHANED (01 R4). -/
inductive EntryHire where
  | active (st : HireState)
  | orphaned (prior : HireState)
  deriving DecidableEq, Repr

/-- A hiring tag: home station and sequence (01 R4). The sequence 0 is out of range. -/
structure Tag where
  home : Station
  seq : Fin 4096
  deriving DecidableEq, Repr

/-- A time as records and frames carry it: seconds since 2000-01-01 00:00:00, or 0 with the clock-unset flag (04 R70, 12 R197). -/
structure Stamp where
  secs : Nat
  unset : Bool
  deriving DecidableEq, Repr

/-- A date-time in fields, as the console request SET_TIME carries it (04 R68). -/
structure DateTime where
  year : Nat
  month : Nat
  day : Nat
  hour : Nat
  minute : Nat
  second : Nat
  deriving DecidableEq, Repr

/-- One roster entry (01 R2). -/
structure RosterEntry where
  station : Station
  role : Role
  sign : Bool
  odometer : Bool
  mask : SeatSet
  digest : BitVec 16
  state : EntryState
  lockout : Bool
  halfA : Bool
  halfB : Bool
  fwd : Nat
  announced : Option Tag
  deriving DecidableEq, Repr

/-- The twelve claim words (01 R3); seat 0 is SEAT1. -/
inductive WordId where
  | floor
  | lane
  | shift
  | close
  | drain
  | assist
  | seat (i : Fin 6)
  deriving DecidableEq, Repr

/-- A claim word: holder and tag (01 R3). -/
structure Claim where
  holder : Option Station
  tag : BitVec 16
  deriving DecidableEq, Repr

/-- The twelve claim words of a picture (01 R3). -/
structure Claims where
  floor : Claim
  lane : Claim
  shift : Claim
  close : Claim
  drain : Claim
  assist : Claim
  seat1 : Claim
  seat2 : Claim
  seat3 : Claim
  seat4 : Claim
  seat5 : Claim
  seat6 : Claim
  deriving DecidableEq, Repr

/-- One hiring-roster entry (01 R4). -/
structure HiringEntry where
  tag : Tag
  mode : Mode
  seats : SeatSet
  state : EntryHire
  start : Stamp
  deriving DecidableEq, Repr

/-- The shift record (01 R5). -/
structure ShiftRec where
  number : Nat
  driver : Nat
  opened : Stamp
  deriving DecidableEq, Repr

/-- The vehicle picture (01 R1). -/
structure Picture where
  roster : List RosterEntry
  claims : Claims
  hirings : List HiringEntry
  shift : Option ShiftRec
  digest : BitVec 16
  seq : BitVec 16
  deriving DecidableEq, Repr

/-- The reasons a request or a picture frame is refused with, in the order of the console's numbering (12 section 12.6). -/
inductive Reason where
  | offShift
  | closing
  | lockout
  | noSeats
  | rosterFull
  | soloConflict
  | noSuchHiring
  | wrongState
  | headLost
  | notInService
  | lineFail
  | lineBusy
  | noAnswer
  | busy
  deriving DecidableEq, Repr

/-- Result of the application of a picture-changing frame (01 R8). -/
inductive PicResult where
  | won
  | already
  | busy
  | freed
  | notFreed
  | done
  | refused (r : Reason)
  deriving DecidableEq, Repr

/-- Why a frame was abandoned (02 R37). -/
inductive Abandon where
  | lineFail
  | lineBusy
  | replaced
  | withdrawn
  | notInService
  deriving DecidableEq, Repr

/-- Outcome of a frame at its sender (02 R37). -/
inductive FrameResult where
  | applied
  | taken
  | refused
  | noAnswer
  | abandoned (r : Abandon)
  deriving DecidableEq, Repr

/-- Payload of HELLO (01 R9). A role outside the roles is `none` (01 R6). -/
structure HelloPay where
  role : Option Role
  sign : Bool
  odometer : Bool
  mask : SeatSet
  digest : BitVec 16
  tag : Option Tag
  deriving DecidableEq, Repr

/-- Payload of STATUS (01 R10). A state outside the states is `none` (01 R6). -/
structure StatusPay where
  state : Option EntryState
  lockout : Bool
  halfA : Bool
  halfB : Bool
  fwd : Nat
  deriving DecidableEq, Repr

/-- The picture-changing frames with their payloads (01 section 1.2). A word name that names no word, a mode and a state out of their ranges are `none` (01 R6). -/
inductive PicFrame where
  | hello (h : HelloPay)
  | status (st : StatusPay)
  | drop (s : Station)
  | take (word : Option WordId) (tag : BitVec 16)
  | takeSet (seats : SeatSet) (tag : Tag)
  | give (word : Option WordId)
  | seize (word : Option WordId) (tag : BitVec 16)
  | shiftOpen (number driver : Nat) (opened : Stamp)
  | closeCall (number : Nat) (force : Bool)
  | closeCommit (number : Nat) (force : Bool)
  | closeAbandon
  | hireOpen (tag : Tag) (mode : Option Mode) (seats : SeatSet) (start : Stamp)
  | hireState (tag : Tag) (st : Option HireState)
  | hireClose (tag : Tag)
  | hireReclaim (tag : Tag) (st : Option HireState) (mode : Option Mode) (seats : SeatSet) (start : Stamp)
  deriving DecidableEq, Repr

/-- What a snapshot part carries (03 R54). -/
inductive PartContent where
  | roster (r : List RosterEntry)
  | words (c : Claims) (shift : Option ShiftRec) (digest : BitVec 16)
  | hirings (h : List HiringEntry)
  deriving DecidableEq, Repr

/-- A snapshot part: its content says its number; base and line sequence (03 R54). -/
structure SnapPart where
  base : BitVec 16
  line : BitVec 16
  content : PartContent
  deriving DecidableEq, Repr

/-- The commands the console relays for a hiring (05 R88). A mode that is neither SOLO nor SHARED is `none`. -/
inductive HireCmd where
  | start (seats : SeatSet) (mode : Option Mode)
  | stop (tag : Tag)
  | hold (tag : Tag)
  | resume (tag : Tag)
  | cancel (tag : Tag)
  | unpaid (tag : Tag)
  | extra (tag : Tag) (code : Nat)
  | cash (tag : Tag) (amount : Nat)
  deriving DecidableEq, Repr

/-- Why a node is not ready to close, or did not answer (11 R185, R186). -/
inductive CloseReason where
  | hiring
  | card
  | lockout
  | forward
  | noReply
  deriving DecidableEq, Repr

/-- A readiness: ready, or not ready with the reason (11 R185). -/
inductive Readiness where
  | ready
  | notReady (r : CloseReason)
  deriving DecidableEq, Repr

/-- Why a card attempt was declined (09 R148, R152, R154, R156). -/
inductive CardReason where
  | badCard
  | gateway
  | noLink
  | reader
  deriving DecidableEq, Repr

/-- How the card was presented (09 R145). -/
inductive EntryMode where
  | tap
  | insert
  deriving DecidableEq, Repr

/-- Why a call was ended (08 R132, R133). -/
inductive EndReason where
  | noAnswer
  | hangup
  deriving DecidableEq, Repr

/-- A half of the journal ring (10 R169). -/
inductive Half where
  | a
  | b
  deriving DecidableEq, Repr

/-- The alert kinds, in the kind order 1 to 24 (07 R116). -/
inductive AlertKind where
  | startRefused
  | fareLimited
  | headLostHold
  | gapRecorded
  | payRequested
  | cardApproved
  | cardDeclined
  | cardOffline
  | cardNoLink
  | cardIndeterminate
  | readerFault
  | forwardFull
  | journalHalfReady
  | journalLockout
  | callMissed
  | unregisteredOccupant
  | signLampFault
  | stationDropped
  | orphanHiring
  | configMismatch
  | lineFail
  | shiftCloseFailed
  | shiftClosed
  | assistActive
  deriving DecidableEq, Repr

/-- The reason field of an alert (07 R116): of a refused start or of a declined card. -/
inductive AlertReason where
  | start (r : Reason)
  | card (r : CardReason)
  deriving DecidableEq, Repr

/-- An alert record (07 R116). `value2` is used where the value has two parts: the digests of CONFIG_MISMATCH, the kind and destination of LINE_FAIL. -/
structure AlertRec where
  kind : AlertKind
  origin : Station
  tag : Option Tag := none
  reason : Option AlertReason := none
  value : Option Nat := none
  value2 : Option Nat := none
  stations : List (Station × CloseReason) := []
  deriving DecidableEq, Repr

/-- The kind of a forward-list entry (09 R158). -/
inductive FwdKind where
  | offline
  | void
  deriving DecidableEq, Repr

/-- A forward-list entry; scheme and entry mode are present in OFFLINE entries only (09 R158). -/
structure FwdEntry where
  kind : FwdKind
  seq : BitVec 16
  tag : Tag
  amount : Nat
  token : List Byte
  card : Option (Nat × EntryMode)
  time : Stamp
  deriving DecidableEq, Repr

/-- An AUTH_REQUEST's fields (09 R151). -/
structure AuthReq where
  seq : BitVec 16
  tag : Tag
  amount : Nat
  token : List Byte
  scheme : Nat
  entry : EntryMode
  deriving DecidableEq, Repr

/-- An AUTH_REPLY's fields (09 R152). -/
structure AuthRep where
  seq : BitVec 16
  tag : Tag
  approved : Bool
  amount : Nat
  code : Option (List Byte)
  text : Byte
  deriving DecidableEq, Repr

/-- The tally's values (11 R179); `bands` holds the totals of bands 1 to 8. -/
structure TallyVals where
  shift : Option Nat
  hirings : Nat
  cancelled : Nat
  fares : Nat
  extras : Nat
  cash : Nat
  cardOnline : Nat
  cardOffline : Nat
  unpaid : Nat
  offline : Nat
  forwarded : Nat
  limited : Nat
  bands : Vector Nat 8
  hired : Nat
  empty : Nat
  seconds : Nat
  saturated : Bool
  deriving DecidableEq, Repr

/-- The HIRING_CLOSED record (05 R97). -/
structure ClosedRec where
  tag : Tag
  mode : Mode
  seats : SeatSet
  start : Stamp
  stop : Stamp
  distance : Nat
  metresPerUnit : Nat
  waiting : Nat
  fare : Nat
  waived : Option Nat
  subtotals : List (Nat × Nat)
  extras : List (Nat × Nat)
  cash : Nat
  card : Nat
  unpaid : Nat
  approval : Option (List Byte)
  gap : Option Nat
  limited : Bool
  offline : Bool
  unpaidFlag : Bool
  cancelled : Bool
  gapFlag : Bool
  restart : Bool
  deriving DecidableEq, Repr

/-- The vehicle summary (11 R189). -/
structure Summary where
  shift : Nat
  sums : TallyVals
  missing : List Station
  deriving DecidableEq, Repr

/-- Where a clock setting came from (10 R166). -/
inductive TimeSource where
  | console
  | gateway (s : Station)
  deriving DecidableEq, Repr

/-- The nine kinds of journal record, with their fields (10 R166). -/
inductive RecBody where
  | shiftOpen (s : ShiftRec)
  | hiringClosed (c : ClosedRec)
  | lateApproval (seq : BitVec 16) (tag : Tag) (amount : Nat) (token : List Byte)
  | unsentOffline (e : FwdEntry)
  | orphanCleared (tag : Tag)
  | stationDropped (s : Station) (role : Role)
  | timeSet (old : Option Nat) (new : Nat) (source : TimeSource)
  | shiftClose (t : TallyVals) (forced orphan : Bool)
  | vehicleSummary (v : Summary)
  deriving DecidableEq, Repr

/-- A journal record before it enters the ring (10 R165). -/
structure Record where
  body : RecBody
  origin : Station
  time : Stamp
  eventsLost : Bool
  deriving DecidableEq, Repr

/-- A record in a slot of the ring, with its record number (10 R165). -/
structure RingRec where
  number : BitVec 32
  content : Record
  deriving DecidableEq, Repr

/-- The names of the slot states (05 R83), as reports show them. -/
inductive SlotName where
  | free
  | starting
  | running
  | held
  | paying
  | closing
  | resuming
  deriving DecidableEq, Repr

/-- Why a slot is HELD (05 R83). -/
inductive HoldReason where
  | command
  | headLost
  deriving DecidableEq, Repr

/-- A fare report's fields (04 R81), with the metres of a distance unit (04 R64, log 46). -/
structure FareRep where
  tag : Tag
  state : SlotName
  hold : Option HoldReason
  fare : Nat
  extras : Nat
  totalDue : Nat
  cash : Nat
  card : Nat
  remaining : Nat
  band : Nat
  distance : Nat
  metresPerUnit : Nat
  waiting : Nat
  limited : Bool
  deriving DecidableEq, Repr

/-- Destination of a frame (02 section 2.2). -/
inductive Dest where
  | station (s : Station)
  | all
  deriving DecidableEq, Repr

/-- Call-control frames (08). -/
inductive CallFrame where
  | call (urgent : Bool)
  | answer
  | held
  | resumed
  | ended (r : EndReason)
  deriving DecidableEq, Repr

/-- The frames a CN40 offers (02 R26). -/
inductive Frame where
  | pic (f : PicFrame)
  | snapshotAsk
  | snapshot (dst : Station) (p : SnapPart)
  | closeReady (dst : Station) (shift : Nat) (r : Readiness)
  | hireCommand (dst : Station) (c : HireCmd)
  | distance (n : Nat) (running : BitVec 16)
  | time (t : Nat)
  | fareReport (dst : Station) (r : FareRep)
  | alert (dst : Station) (cls : AlertClass) (a : AlertRec) (lost : Nat)
  | call (dst : Station) (c : CallFrame)
  | voice (dst : Dest) (samples : List Byte)
  | authRequest (dst : Station) (r : AuthReq)
  | forward (dst : Station) (e : FwdEntry)
  | journalRecord (dst : Station) (h : Half) (pos : Nat) (r : RingRec)
  | journalEnd (dst : Station) (h : Half) (count : Nat) (first last : BitVec 32)
  | tally (shift : Nat) (t : TallyVals)
  deriving DecidableEq, Repr

/-- The eight offer slots, in the selector's order (02 R36). -/
inductive SlotId where
  | picture
  | meter
  | command
  | call
  | card
  | alert
  | voice
  | bulk
  deriving DecidableEq, Repr

/-- The eight producers of the picture-frame FIFO (02 R38). -/
inductive Producer where
  | hiring
  | intercom
  | card
  | status
  | silence
  | tally
  | join
  | assist
  deriving DecidableEq, Repr

/-- Where a frame stands whose line-wait limit expires (02 R34). -/
inductive Waiting where
  | slot (k : SlotId)
  | fifo (p : Producer)
  deriving DecidableEq, Repr

/-- The reply window as every station reads it (02 R31, R32). -/
structure Marks where
  object : Bool
  taken : Bool
  refused : Bool
  deriving DecidableEq, Repr

/-- A frame as received on the line, before it is judged (12 section 12.6, 02 R25). -/
structure RawFrame where
  source : BitVec 4
  complement : BitVec 4
  cls : BitVec 2
  kind : BitVec 6
  dest : BitVec 5
  length : BitVec 7
  payload : List Byte
  check : BitVec 16
  deriving DecidableEq, Repr

/-- What causes a reset (03 R47). -/
inductive ResetCause where
  | pin
  | mainLost
  | standbyLost
  deriving DecidableEq, Repr

/-- The bay panel's five keys, each down or not (12 R194). -/
structure Keys where
  call : Bool
  talk : Bool
  pay : Bool
  quiet : Bool
  start : Bool
  deriving DecidableEq, Repr

/-- The six lamps, in the order of 06 R106. -/
inductive LampId where
  | forHire
  | hired
  | share
  | digit
  | offDuty
  | assist
  deriving DecidableEq, Repr

/-- The four producers of journal records (10 R167). -/
inductive RecProducer where
  | hiring
  | card
  | tally
  | headEvents
  deriving DecidableEq, Repr

/-- The claim words that FORCE_CLAIM names (12 R192). -/
inductive ForceWord where
  | floor
  | lane
  deriving DecidableEq, Repr

/-- What the card reader reports of a presented card (12 section 12.7). An entry mode that is neither TAP nor INSERT is `none` (09 R148). -/
structure CardRead where
  token : List Byte
  scheme : Nat
  entry : Option EntryMode
  onlineRequired : Bool
  deriving DecidableEq, Repr

end Sys2Proof
end

