-- ==== Sys2Proof/Syntax.lean ====
section
/-! DEFINITION. The commands of the node: one constructor per row of the table of operations and events, with the fields the rules give it. A frame's `src` is its source station and `dst` its destination. -/

namespace Sys2Proof

/-- A step of the node (opcode_table.json). The table gives no operands; they are the fields of the rule cited. -/
inductive Instr where
  /-- R47. `cutShort`: the reset cut a retained update short (R49). -/
  | reset (cause : ResetCause) (cutShort : Bool)
  /-- R47-R51. The strap pins, the answer of the configuration memory (none: it does not answer) and the keys found down (R194). -/
  | resetEnd (straps : Straps) (memory : Option (List Byte)) (keys : Keys)
  | lampTestEnd
  | lineIdle
  | contentionRoundStart
  /-- R27. The slot of the first start mark of the round seen so far, if any. -/
  | attemptStart (firstMark : Option Nat)
  /-- R28, R29. `readBackBad`: a sender read back a beat it did not send. -/
  | frameSourceRead (source complement : BitVec 4) (readBackBad : Bool)
  /-- R31, R46. `ranOn`: a frame taken as a collision that ran to its end. -/
  | frameJudgedFailed (f : RawFrame) (ranOn : Bool)
  | attemptFailed
  | frameOutcome (m : Marks)
  | lineWaitLimitExpiry (w : Waiting)
  /-- R25, R26, R88 (log 37). A good frame that no other row takes: an unknown kind, a kind or a word out of place, a kind that no block of a CN40 owns, a HIRE_COMMAND with an unknown command word. -/
  | unknownFrame (src : Station) (cls kind dest : Nat)
  | hello (src : Station) (h : HelloPay)
  | status (src : Station) (st : StatusPay)
  /-- R11. The dropped station, 0 to 15: a payload that names no station is not given (R6, log 47). -/
  | drop (src : Station) (s : Station)
  | take (src : Station) (word : Option WordId) (tag : BitVec 16)
  | takeSet (src : Station) (seats : SeatSet) (tag : Tag)
  | give (src : Station) (word : Option WordId)
  | seize (src : Station) (word : Option WordId) (tag : BitVec 16)
  | shiftOpen (src : Station) (number driver : Nat) (opened : Stamp)
  | closeCall (src : Station) (number : Nat) (force : Bool)
  | closeCommit (src : Station) (number : Nat) (force : Bool)
  | closeAbandon (src : Station)
  | hireOpen (src : Station) (tag : Tag) (mode : Option Mode) (seats : SeatSet) (start : Stamp)
  | hireState (src : Station) (tag : Tag) (st : Option HireState)
  | hireClose (src : Station) (tag : Tag)
  | hireReclaim (src : Station) (tag : Tag) (st : Option HireState) (mode : Option Mode) (seats : SeatSet) (start : Stamp)
  | snapshotAsk (src : Station)
  | snapshot (src dst : Station) (p : SnapPart)
  | closeReady (src dst : Station) (shift : Nat) (r : Readiness)
  | hireCommandStart (src dst : Station) (seats : SeatSet) (mode : Option Mode)
  | hireCommandStop (src dst : Station) (tag : Tag)
  | hireCommandHold (src dst : Station) (tag : Tag)
  | hireCommandResume (src dst : Station) (tag : Tag)
  | hireCommandCancel (src dst : Station) (tag : Tag)
  | hireCommandExtra (src dst : Station) (tag : Tag) (code : Nat)
  | hireCommandCash (src dst : Station) (tag : Tag) (amount : Nat)
  | hireCommandUnpaid (src dst : Station) (tag : Tag)
  | distance (src : Station) (n : Nat) (running : BitVec 16)
  | time (src : Station) (t : Nat)
  | fareReport (src dst : Station) (r : FareRep)
  /-- R120. An alert whose kind is outside 1-24 is `none`. -/
  | alert (src dst : Station) (cls : AlertClass) (a : Option AlertRec) (lost : Nat)
  | call (src dst : Station) (urgent : Bool)
  | callAnswer (src dst : Station)
  | callHeld (src dst : Station)
  | callResumed (src dst : Station)
  | callEnd (src dst : Station) (r : EndReason)
  | voice (src : Station) (dst : Dest) (samples : List Byte)
  | authReply (src dst : Station) (r : AuthRep)
  | journalRead (src dst : Station) (h : Option Half)
  | journalRelease (src dst : Station) (h : Option Half)
  | tally (src : Station) (shift : Nat) (t : TallyVals)
  | presenceTimerExpiry
  | silenceTimerExpiry (s : Station)
  | detachedTimerExpiry
  | listenTimerExpiry
  | snapshotLimitExpiry
  | reaskTimerExpiry
  | heardEntryExpiry (s : Station)
  /-- R67. What the two seat sensors show: occupied or vacant (R105). -/
  | oneSecondTick (occupied1 occupied2 : Bool)
  | assistFlashPhase
  | lampDarkTimeLimit (l : LampId)
  /-- R112. The current sense of the lamp changes to this level. -/
  | lampCurrentSense (l : LampId) (current : Bool)
  /-- R196. How long the input was low before the rise, and how long the rise is held, in microseconds. -/
  | odometerPulse (low held : Nat)
  | assistSwitchClose
  /-- R194. `down`: the key is pressed; otherwise the port sees it released. -/
  | keyCall (down : Bool)
  | keyTalkPress
  | keyTalkRelease
  | keyPay (down : Bool)
  | keyQuiet (down : Bool)
  | keyStart (down : Bool)
  | cardPresented (c : CardRead)
  | cardRemoved
  | readerFault
  /-- R196. The bytes of the message. -/
  | cardLinkDiscard (bytes : List Byte)
  | armLimitExpiry
  | laneLimitExpiry
  | laneRetryExpiry
  | replyLimitExpiry
  | resultHoldExpiry
  | forwardRetryExpiry
  | ringLimitExpiry
  | talkLimitExpiry
  | toneTimerExpiry
  /-- R139. The 32nd sample. -/
  | voiceFrameComplete (sample : Byte)
  | playoutFrameEnd
  | alertShowExpiry
  | closeAnswerLimitExpiry
  | tallyCollectLimitExpiry
  | tallyRetryWindowExpiry
  | recordIntakeAccept (p : RecProducer)
  | ringRecordMove
  | consoleStartHire (s : Station) (seats : SeatSet) (mode : Option Mode)
  | consoleStop (tag : Tag)
  | consoleHold (tag : Tag)
  | consoleResume (tag : Tag)
  | consoleCancel (tag : Tag)
  | consoleUnpaid (tag : Tag)
  | consoleExtra (tag : Tag) (code : Nat)
  | consoleCash (tag : Tag) (amount : Nat)
  | consoleCard (tag : Tag)
  | consoleCall (target : Dest) (urgent : Bool)
  | consoleTalkPress
  | consoleTalkRelease
  | consoleAnswer
  | consoleHangup
  | consoleShiftOpen (driver : Nat)
  | consoleShiftClose (force : Bool)
  | consoleSetTime (t : DateTime)
  | consoleClearOrphan (tag : Tag)
  | consoleForceClaim (word : ForceWord)
  | consoleAssistOff
  | consoleStatusAsk
  | consoleUnknownRequest (kind : Byte)
  /-- R191. The bytes received. -/
  | consoleMessageDiscard (bytes : List Byte)
  /-- R191. The bytes received before the gap. -/
  | consoleByteGapExpiry (bytes : List Byte)
  | consoleMessageSent
  | voiceSample (sample : Byte)
  | standbyClockAdvance
  deriving DecidableEq, Repr

end Sys2Proof
end

