-- ==== Sys2Proof/Machine/State.lean ====
section
/-! DEFINITION. The state of one CN40 node, its value at reset, and the (empty) ways a step can stop. -/

namespace Sys2Proof.Machine

/-! ## Node and line -/

/-- Node line state (03 section 3.1). -/
inductive NodeState where
  | reset
  | config
  | joining
  | founding
  | inService
  | listener
  | detached
  | halted
  deriving DecidableEq, Repr

/-- Why a node is HALTED (03 R63). -/
inductive HaltReason where
  | configFault
  | duplicateStation
  | duplicateHead
  deriving DecidableEq, Repr

/-- What every block reads and only the start, the join controller and the picture store change (03 R47-R63, 01 R1). -/
structure Core where
  node : NodeState
  halt : Option HaltReason
  straps : Straps
  cfg : Cfg
  digest : BitVec 16
  standby : Bool
  pic : Option Picture
  deriving DecidableEq, Repr

/-- What a frame of a shared producer was offered for, where the producer has more than one use for its kind: the slot's or transaction's own step, a console request, one card attempt, a forwarding. -/
inductive Purpose where
  | plain
  | console
  | attempt (seq : BitVec 16)
  | forward
  deriving DecidableEq, Repr

/-- A frame in an offer slot or in the picture-frame FIFO (02 R33, R34, R36). `leaving`: the node left service during its attempt (R35). `dead`: its outcome changes nothing at its source. -/
structure Offer where
  frame : Frame
  producer : Option Producer
  purpose : Purpose
  offeredAt : Time
  attempts : Nat
  expired : Bool
  leaving : Bool
  dead : Bool
  deriving DecidableEq, Repr

/-- The marks a station makes (02 R31). -/
inductive Mark where
  | object
  | taken
  | refused
  deriving DecidableEq, Repr

/-- The line interface (02 R24, R27, R28, R31, R46). `sending`: the attempt of the frame in hand is under way. -/
structure LineIf where
  round : Bool
  lastWinner : Station
  inHand : Option SlotId
  sending : Bool
  collided : Bool
  mark : Option Mark
  objections : Nat
  deriving DecidableEq, Repr

/-- The transmit selector (02 R36, R38, R42): eight slots, the picture-frame FIFO and the frames waiting behind COMMAND and BULK. -/
structure Selector where
  picture : Option Offer
  meter : Option Offer
  command : Option Offer
  call : Option Offer
  card : Option Offer
  alert : Option Offer
  voice : Option Offer
  bulk : Option Offer
  fifo : List Offer
  waitConsole : Option Frame
  waitReady : Option Frame
  waitSnapshot : Option Frame
  waitTally : Option Frame
  waitForward : Option Frame
  waitJournal : Option Frame
  waitFare : Option Frame
  deriving DecidableEq, Repr

/-- A silence timer (02 R44): since when the station is silent, and whether 6 s were reached. -/
structure Silence where
  station : Station
  since : Time
  fired : Bool
  deriving DecidableEq, Repr

/-- What the picture store keeps beside the picture (02 R43-R45). `presence`: since when the presence timer runs. `statusOwed`: a STATUS to be offered when the one that is begun has its outcome (03 R61). -/
structure Store where
  presence : Option Time
  silence : List Silence
  dropList : List Station
  statusOwed : Bool
  deriving DecidableEq, Repr

/-- A frame of the catch-up list, with the number of parts held when it completed (03 section 3.2). -/
structure Caught where
  src : Station
  frame : PicFrame
  parts : Nat
  deriving DecidableEq, Repr

/-- What the node still has to announce after adopting a picture (03 R58). -/
inductive Announce where
  | done
  | hello
  | status
  deriving DecidableEq, Repr

/-- A joiner being served with the frozen copy (03 R54). -/
structure Serving where
  joiner : Station
  copy : Picture
  part : Nat
  deriving DecidableEq, Repr

/-- The join controller (03 section 3.2, R54, R58, R62); a timer is the moment it expires. `asked`: a SNAPSHOT_ASK of this node has completed since it entered JOINING (R52), so that the catch-up list fills. -/
structure Join where
  heard : List (Station × Time)
  roles : List (Station × Role)
  firstTime : Bool
  evidence : Option Time
  answerer : Option Station
  asked : Bool
  parts : List SnapPart
  caught : List Caught
  listen : Option Time
  limit : Option Time
  reask : Option Time
  detached : Option Time
  helloTag : Option Tag
  announcing : Announce
  serving : Option Serving
  deriving DecidableEq, Repr

/-! ## Meter and hiring -/

/-- The meter unit's state that is not retained (04 R70-R75, 02 R40). `window` has the newest of its 10 seconds first. `timeWaiting`: a TIME waits in the meter unit, with whether it carries a console setting. -/
structure Meter where
  band : Nat
  pulses : Nat
  accumulator : Nat
  timeWaiting : Option Bool
  seen : Bool
  lastDistance : Option Time
  window : List Nat
  current : Nat
  quiet : Bool
  quietSecs : Nat
  secondAt : Time
  deriving DecidableEq, Repr

inductive StartStep where
  | seats
  | opening
  | returning
  deriving DecidableEq, Repr

inductive CloseStep where
  | record
  | removing
  | releasing
  deriving DecidableEq, Repr

inductive ResumeStep where
  | wait
  | seats
  | reclaiming
  | removing
  | returning
  deriving DecidableEq, Repr

/-- The state a RESUMING slot was in; a HELD one keeps its hold reason and a CLOSING one its step (05 R100). -/
inductive Prior where
  | starting
  | running
  | held (r : HoldReason)
  | paying
  | closing (st : CloseStep)
  deriving DecidableEq, Repr

/-- State and step of the hiring slot (05 R83). -/
inductive SlotState where
  | free
  | starting (st : StartStep)
  | running
  | held (r : HoldReason)
  | paying
  | closing (st : CloseStep)
  | resuming (st : ResumeStep) (prior : Prior)
  deriving DecidableEq, Repr

/-- The hiring slot (05 R83). A FREE slot shows no tag (`Slot.tag?`). `freed`: the report of the change to FREE, kept while the slot stays FREE (04 R81, log 41). `refusal`: the reason START_REFUSED is raised with when the slot reaches FREE (R86, R87). -/
structure Slot where
  state : SlotState
  tag : Tag
  mode : Mode
  seats : SeatSet
  start : Stamp
  toGive : List (Fin 6)
  band : Nat
  distance : Nat
  waiting : Nat
  fare : Nat
  limited : Bool
  subtotals : List (Nat × Nat)
  extras : List (Nat × Nat)
  gap : Nat
  gapPending : Bool
  cash : Nat
  card : Nat
  unpaid : Nat
  attempts : Nat
  approval : Option (List Byte)
  offline : Bool
  unpaidFlag : Bool
  cancelled : Bool
  restart : Bool
  stop : Stamp
  closing : Option Record
  reportMark : Bool
  freed : Option FareRep
  refusal : Option Reason
  deriving DecidableEq, Repr

/-- Watch count and raised mark of one seat sensor (05 R105). -/
structure Watch where
  count : Nat
  raised : Bool
  deriving DecidableEq, Repr

/-- The hiring controller's state that is not retained (05 R91, R105, 04 R81). `stateRefused`: the HIRE_STATE that was refused. `retry`: a failed report waits for the next one-second expiry. -/
structure Hire where
  stateRefused : Option (Tag × HireState)
  lastReport : Option FareRep
  retry : Bool
  watch1 : Watch
  watch2 : Watch
  deriving DecidableEq, Repr

/-! ## Sign and alerts -/

inductive SignState where
  | suspended
  | offDuty
  | forHire
  | share
  | hired
  deriving DecidableEq, Repr

/-- One lamp (06 R106, R112). `dark` is what the dark time stood at at `since`, from when on it grows. -/
structure Lamp where
  driven : Bool
  sense : Bool
  dark : Time
  since : Option Time
  fault : Bool
  reported : Bool
  deriving DecidableEq, Repr

/-- The sign driver (06 R106). `test`: when the running lamp test ends. -/
structure Sign where
  state : SignState
  digit : Option Nat
  overlay : Bool
  test : Option Time
  forHire : Lamp
  hired : Lamp
  share : Lamp
  digitLamp : Lamp
  offDuty : Lamp
  assist : Lamp
  deriving DecidableEq, Repr

/-- Destination of a frame part (07 R118). -/
inductive PartDest where
  | head
  | bay (s : Station)
  deriving DecidableEq, Repr

/-- A frame part of the outbound queue (07 R118). -/
structure Part where
  alert : AlertRec
  cls : AlertClass
  dest : PartDest
  tries : Nat
  inSlot : Bool
  deriving DecidableEq, Repr

/-- An alert of the console deferred list (07 R121). `carried`: the lost count of the frame it came in; none for the HEAD's own. -/
structure Deferred where
  alert : AlertRec
  carried : Option Nat
  deriving DecidableEq, Repr

/-- An item of the bay alert line or an entry of the bay pending set (07 R124, R126). -/
structure Item where
  alert : AlertRec
  count : Nat
  urgent : Bool
  deriving DecidableEq, Repr

/-- The alert router and the bay alert line (07 R118-R126). `showing`: the item shown and when its showing ends. -/
structure Alerts where
  queue : List Part
  lost : Nat
  deferred : List Deferred
  overflow : Bool
  quietKey : Bool
  mask : Bool
  pending : List Item
  showQueue : List Item
  showing : Option (Item × Time)
  deriving DecidableEq, Repr

/-! ## Intercom -/

inductive CallState where
  | idle
  | ringingOut
  | ringingIn
  | connected
  | heldOut
  | heldIn
  deriving DecidableEq, Repr

inductive TalkState where
  | quiet
  | asking
  | talking
  | ending
  | blocked
  deriving DecidableEq, Repr

inductive Tone where
  | ring
  | ringback
  | busy
  deriving DecidableEq, Repr

/-- The tones that a call state calls for (08 R127). -/
inductive CallTone where
  | ring
  | ringback
  deriving DecidableEq, Repr

inductive Playout where
  | stopped
  | filling
  | playing
  | draining
  deriving DecidableEq, Repr

/-- The TAKE of FLOOR that a press has asked for (08 R137): not offered yet, offered for the call in progress, offered for a call that has ended, won for a call that has ended and to be given back before the announcement's own (log 39). -/
inductive FloorAsk where
  | none
  | current
  | stale
  | giveBack
  deriving DecidableEq, Repr

/-- The intercom unit (08 R127). `outgoing`: direction OUT. `handed`: the front of the list stands in the CALL slot. `ready`: the ready frame with its destination. `source`: the station whose frames the jitter queue holds. `tone`: the tone of the call. `busy`: when the BUSY of a refused call, of a CALL key that found no HEAD or of an announcement that did not start ends; `talkBusy`: when that of a talk press that found the floor taken does (R127, log 14). -/
structure Intercom where
  call : CallState
  peer : Option Dest
  outgoing : Bool
  urgent : Bool
  placed : Bool
  answer : Bool
  announce : Bool
  list : List (Station × CallFrame)
  handed : Bool
  talk : TalkState
  ask : FloorAsk
  keyHeld : Bool
  mask : Bool
  ring : Option Time
  talkLimit : Option Time
  tone : Option CallTone
  busy : Option Time
  talkBusy : Option Time
  filling : List Byte
  ready : Option (Dest × List Byte)
  jitter : List (List Byte)
  playout : Playout
  playing : Option (List Byte)
  source : Option Station
  deriving DecidableEq, Repr

/-! ## Card engine -/

inductive TxnState where
  | idle
  | armed
  | read
  | laneWait
  | authWait
  | result
  deriving DecidableEq, Repr

inductive TxnResult where
  | approved
  | approvedOffline
  | declined (r : CardReason)
  deriving DecidableEq, Repr

/-- The transaction record (09 R145). -/
structure TxnRec where
  tag : Tag
  amount : Nat
  token : List Byte
  scheme : Nat
  entry : EntryMode
  onlineRequired : Bool
  seq : BitVec 16
  gateway : Option Station
  result : Option TxnResult
  approval : Option (List Byte)
  deriving DecidableEq, Repr

/-- An entry of the request memory (09 R145). -/
structure Remembered where
  seq : BitVec 16
  tag : Tag
  amount : Nat
  token : List Byte
  deriving DecidableEq, Repr

inductive FwdStep where
  | none
  | taking
  | sending
  | giving
  | waiting
  deriving DecidableEq, Repr

/-- What an attempt in LANE_WAIT does next (09 R149): ask for LANE, wait for LANE to be free, wait for the lane retry. -/
inductive LaneAsk where
  | none
  | ask
  | untilFree
  | untilRetry
  deriving DecidableEq, Repr

inductive Verdict where
  | approved
  | declined
  deriving DecidableEq, Repr

/-- The messages the card engine sends to the reader (09 section 9.2). -/
inductive ReaderMsg where
  | arm (amount : Nat)
  | result (v : Verdict) (text : Byte)
  | idle
  deriving DecidableEq, Repr

/-- The card engine's retained state (09 R145). -/
structure CardRet where
  txn : TxnState
  record : TxnRec
  reqSeq : BitVec 16
  memory : List Remembered
  forward : List FwdEntry
  offlineCount : Nat
  hold : List Record
  deriving DecidableEq, Repr

/-- The card engine's state that is not retained (09 R145). `laneRun` is when the running lane limit expires, `laneLeft` what is left of a stopped one. `reader`: the messages given to the reader so far, oldest first. `committed`: the entry whose FORWARD was begun at a forced close and has no outcome yet (09 R160). -/
structure Card where
  fwd : FwdStep
  retry : Bool
  force : Bool
  laneAsk : LaneAsk
  arm : Option Time
  laneRun : Option Time
  laneLeft : Time
  laneRetry : Option Time
  reply : Option Time
  hold : Option Time
  fwdRetry : Option Time
  authWaiting : Option Frame
  reader : List ReaderMsg
  committed : Option FwdEntry
  deriving DecidableEq, Repr

/-! ## Journal and shift -/

inductive HalfState where
  | free
  | filling
  | ready
  | streaming
  deriving DecidableEq, Repr

/-- A half of the ring (10 R169): its records stand at its first slots, in the order they entered. -/
structure HalfRing where
  state : HalfState
  recs : List RingRec
  streamed : Option Station
  deriving DecidableEq, Repr

/-- A record in the intake (10 R167, R173). -/
structure Taken where
  content : Record
  producer : RecProducer
  sealReq : Bool
  deriving DecidableEq, Repr

/-- The journal unit's retained state (10 R165, R167-R169). -/
structure Journal where
  intake : List Taken
  headHold : List Record
  headLost : Bool
  halfA : HalfRing
  halfB : HalfRing
  writePos : Nat
  counter : BitVec 32
  deriving DecidableEq, Repr

/-- The stream cursor (10 section 10.5). `ended`: JOURNAL_END was offered. -/
structure Stream where
  half : Half
  reader : Station
  next : Nat
  sent : Nat
  ended : Bool
  deriving DecidableEq, Repr

/-- The copy of the shift record (11 R179). -/
structure ShiftCopy where
  shift : ShiftRec
  isOpen : Bool
  deriving DecidableEq, Repr

/-- A record of the tally hold (11 R181). `back`: a forced close's SHIFT_CLOSE record (R187). -/
structure Held where
  content : Record
  sealReq : Bool
  back : Bool
  deriving DecidableEq, Repr

/-- The tally unit's retained state (11 R179, R181, R182). -/
structure TallyRet where
  tally : TallyVals
  copy : Option ShiftCopy
  counter : Nat
  hold : List Held
  deriving DecidableEq, Repr

inductive Phase where
  | none
  | calling
  | answering
  | decided
  | collecting
  deriving DecidableEq, Repr

/-- The close a node answered (11 R185). -/
structure Answered where
  shift : Nat
  force : Bool
  holder : Station
  deriving DecidableEq, Repr

/-- The tally unit's state that is not retained (11 section 11.3, R187). `decision`: the CLOSE_COMMIT or CLOSE_ABANDON offered. `stray`: a CLOSE found held by this HEAD at a join (R189). -/
structure Shift where
  phase : Phase
  number : Nat
  force : Bool
  expected : List (Station × Option Readiness)
  own : Option Readiness
  tallies : List (Station × TallyVals)
  limit : Option Time
  decision : Option PicFrame
  stray : Bool
  answered : Option Answered
  tallyEnd : Option Time
  tallySent : Option (Nat × TallyVals)
  deriving DecidableEq, Repr

/-! ## Console -/

/-- The console request in progress, as far as its result is still to come (12 R192). -/
inductive Request where
  | hire
  | call
  | announce
  | setTime
  | clearOrphan (tag : Tag)
  | forceFloor
  | forceLane
  | shiftOpen
  | shiftClose
  | assistOff
  deriving DecidableEq, Repr

/-- What the report CALL shows (08 R144). -/
structure CallView where
  call : CallState
  peer : Option Dest
  outgoing : Bool
  urgent : Bool
  placed : Bool
  talk : TalkState
  floor : Option Station
  tone : Option Tone
  deriving DecidableEq, Repr

/-- What the report SIGN shows (06 R114); the fault flags, in lamp order, only of a HEAD with the sign strap. -/
structure SignView where
  state : SignState
  digit : Option Nat
  overlay : Bool
  faults : Option (List Bool)
  deriving DecidableEq, Repr

/-- What the report STATUS shows (12 R193). -/
structure StatusView where
  node : NodeState
  halt : Option HaltReason
  station : Station
  vehicleId : BitVec 32
  pic : Option Picture
  clock : Option Nat
  deriving DecidableEq, Repr

/-- The console reports (12 R193). -/
inductive Report where
  | alert (a : AlertRec) (deferred : Bool) (lost : Nat)
  | fare (src : Station) (r : FareRep)
  | sign (v : SignView)
  | call (v : CallView)
  | status (v : StatusView)
  | summary (v : Summary)
  | deferredOverflow
  deriving DecidableEq, Repr

/-- A message of the console port's output queue: a result (none: DONE) or a report (12 R191). -/
inductive ConsoleMsg where
  | result (r : Option Reason)
  | report (r : Report)
  deriving DecidableEq, Repr

/-- The console port (12 R191, R192). `rx`: the bytes of the message being received. -/
structure Console where
  request : Option Request
  queue : List ConsoleMsg
  sending : Option ConsoleMsg
  rx : List Byte
  deriving DecidableEq, Repr

/-! ## The whole -/

/-- The retained area (03 R49). -/
structure Retained where
  valid : Bool
  slot : Slot
  lastSeq : Fin 4096
  card : CardRet
  journal : Journal
  tally : TallyRet
  clock : Option Nat
  running : BitVec 16
  lastRunning : Option (BitVec 16)
  deriving DecidableEq, Repr

/-- What the blocks change. `now` and `free` are the model's own: the time base (log 3) and the counter of free values drawn (log 7). -/
structure Work where
  now : Time
  free : Nat
  ret : Retained
  line : LineIf
  sel : Selector
  store : Store
  join : Join
  meter : Meter
  hire : Hire
  sign : Sign
  alerts : Alerts
  ic : Intercom
  card : Card
  stream : Option Stream
  shift : Shift
  con : Console
  keys : Keys
  assist : Bool
  deriving DecidableEq, Repr

/-- One node. -/
structure Node where
  core : Core
  w : Work
  deriving DecidableEq, Repr

/-- The state of the machine: the commands that wait, first in first out, and the node. -/
structure State where
  pending : List Instr
  node : Node
  deriving DecidableEq, Repr

/-- Reasons to stop with a fault. There is none: the spec names no event that stops the node, a bad configuration or a duplicate station makes it HALTED (03 R63), which is a state. No command raises a fault. -/
inductive Fault where
  deriving DecidableEq, Repr

/-- Reasons to refuse a command. -/
inductive Refusal where
  /-- Raised by an arm of `exec` whose command has no meaning yet; no arm does. Safe. -/
  | notModelled (mnemonic : String)
  deriving DecidableEq, Repr

/-! ## Values after a cold start and at every start -/

def Claim.free : Claim := ⟨none, 0⟩

def Claims.free : Claims :=
  ⟨Claim.free, Claim.free, Claim.free, Claim.free, Claim.free, Claim.free,
   Claim.free, Claim.free, Claim.free, Claim.free, Claim.free, Claim.free⟩

def LineIf.init : LineIf where
  round := false
  lastWinner := 15
  inHand := none
  sending := false
  collided := false
  mark := none
  objections := 0

def Selector.empty : Selector where
  picture := none
  meter := none
  command := none
  call := none
  card := none
  alert := none
  voice := none
  bulk := none
  fifo := []
  waitConsole := none
  waitReady := none
  waitSnapshot := none
  waitTally := none
  waitForward := none
  waitJournal := none
  waitFare := none

def Store.init : Store := ⟨none, [], [], false⟩

def Join.init : Join where
  heard := []
  roles := []
  firstTime := false
  evidence := none
  answerer := none
  asked := false
  parts := []
  caught := []
  listen := none
  limit := none
  reask := none
  detached := none
  helloTag := none
  announcing := .done
  serving := none

def Meter.init : Meter where
  band := 1
  pulses := 0
  accumulator := 0
  timeWaiting := none
  seen := false
  lastDistance := none
  window := [0, 0, 0, 0, 0, 0, 0, 0, 0, 0]
  current := 0
  quiet := false
  quietSecs := 0
  secondAt := 0

def Stamp.zero : Stamp := ⟨0, false⟩

/-- A FREE slot: every field cleared, every optional field absent (05 R83). -/
def Slot.cold : Slot where
  state := .free
  tag := ⟨0, 0⟩
  mode := .solo
  seats := 0
  start := Stamp.zero
  toGive := []
  band := 0
  distance := 0
  waiting := 0
  fare := 0
  limited := false
  subtotals := []
  extras := []
  gap := 0
  gapPending := false
  cash := 0
  card := 0
  unpaid := 0
  attempts := 0
  approval := none
  offline := false
  unpaidFlag := false
  cancelled := false
  restart := false
  stop := Stamp.zero
  closing := none
  reportMark := false
  freed := none
  refusal := none

def Hire.init : Hire := ⟨none, none, false, ⟨0, false⟩, ⟨0, false⟩⟩

def Lamp.off : Lamp := ⟨false, false, 0, none, false, false⟩

def Sign.init : Sign :=
  ⟨.suspended, none, false, none, Lamp.off, Lamp.off, Lamp.off, Lamp.off, Lamp.off, Lamp.off⟩

def Alerts.init : Alerts := ⟨[], 0, [], false, false, false, [], [], none⟩

def Intercom.init : Intercom where
  call := .idle
  peer := none
  outgoing := true
  urgent := false
  placed := false
  answer := false
  announce := false
  list := []
  handed := false
  talk := .quiet
  ask := .none
  keyHeld := false
  mask := false
  ring := none
  talkLimit := none
  tone := none
  busy := none
  talkBusy := none
  filling := []
  ready := none
  jitter := []
  playout := .stopped
  playing := none
  source := none

def TxnRec.cleared : TxnRec := ⟨⟨0, 0⟩, 0, [], 0, .tap, false, 0, none, none, none⟩

def CardRet.cold : CardRet := ⟨.idle, TxnRec.cleared, 0, [], [], 0, []⟩

def Card.init : Card where
  fwd := .none
  retry := false
  force := false
  laneAsk := .none
  arm := none
  laneRun := none
  laneLeft := 0
  laneRetry := none
  reply := none
  hold := none
  fwdRetry := none
  authWaiting := none
  reader := []
  committed := none

def HalfRing.free : HalfRing := ⟨.free, [], none⟩

def Journal.cold : Journal := ⟨[], [], false, HalfRing.free, HalfRing.free, 0, 0⟩

/-- The zeroed tally (11 R179). -/
def TallyVals.zero (shift : Option Nat) : TallyVals where
  shift := shift
  hirings := 0
  cancelled := 0
  fares := 0
  extras := 0
  cash := 0
  cardOnline := 0
  cardOffline := 0
  unpaid := 0
  offline := 0
  forwarded := 0
  limited := 0
  bands := Vector.replicate 8 0
  hired := 0
  empty := 0
  seconds := 0
  saturated := false

def TallyRet.cold : TallyRet := ⟨TallyVals.zero none, none, 0, []⟩

def Shift.init : Shift :=
  ⟨.none, 0, false, [], none, [], none, none, false, none, none, none⟩

def Console.init : Console := ⟨none, [], none, []⟩

def Keys.up : Keys := ⟨false, false, false, false, false⟩

/-- The retained area after a cold start (03 R49; each block's chapter). -/
def Retained.cold : Retained where
  valid := true
  slot := Slot.cold
  lastSeq := 0
  card := CardRet.cold
  journal := Journal.cold
  tally := TallyRet.cold
  clock := none
  running := 0
  lastRunning := none

/-- What is not retained, as a reset leaves it, with the retained area, the time base and the counter of free values given. -/
def Work.fresh (now : Time) (free : Nat) (r : Retained) : Work where
  now := now
  free := free
  ret := r
  line := LineIf.init
  sel := Selector.empty
  store := Store.init
  join := Join.init
  meter := Meter.init
  hire := Hire.init
  sign := Sign.init
  alerts := Alerts.init
  ic := Intercom.init
  card := Card.init
  stream := none
  shift := Shift.init
  con := Console.init
  keys := Keys.up
  assist := false

/-- The straps before a first RESET_END has sampled them: DESIGN CHOICE (log 4). -/
def Straps.unsampled : Straps := ⟨0, .head, false, false⟩

/-- A node held in RESET that has never started (03 R47). -/
def Node.reset : Node where
  core := ⟨.reset, none, Straps.unsampled, Cfg.blank, 0, false, none⟩
  w := Work.fresh 0 0 Retained.cold

/-- The machine right after reset: the node in RESET, nothing retained, no command waiting (03 R47, log 4). -/
def State.reset : State := ⟨[], Node.reset⟩

end Sys2Proof.Machine
end

