-- ==== Sys2Proof/Machine/Operands.lean ====
section
/-! DEFINITION. Field coding: checks, byte layouts, the configuration memory, the frame kinds, the calendar (12 sections 12.5 to 12.8, 02 R25, R26, 04 R65, R68). -/

namespace Sys2Proof

/-! ## The check (12 R197) -/

/-- One bit through the cyclic check with generator x^16 + x^12 + x^5 + 1. -/
def crcBit (r : BitVec 16) (b : Bool) : BitVec 16 :=
  if r.msb != b then (r <<< 1) ^^^ 0x1021#16 else r <<< 1

/-- The bits of a vector, most significant first. -/
def bitsOf {n : Nat} (v : BitVec n) : List Bool :=
  (List.range n).map fun i => v.getLsbD (n - 1 - i)

/-- The check over a bit string, the register starting at all ones. -/
def crcBits (l : List Bool) : BitVec 16 := l.foldl crcBit 0xFFFF#16

/-- The check over bytes, each taken most significant bit first. -/
def crcBytes (l : List Byte) : BitVec 16 :=
  l.foldl (fun r b => (bitsOf b).foldl crcBit r) 0xFFFF#16

/-- `n` as `k` bytes, most significant first. -/
def beBytes : Nat → Nat → List Byte
  | 0, _ => []
  | k + 1, n => BitVec.ofNat 8 (n / 256 ^ k) :: beBytes k n

/-- The number in bytes, most significant first. -/
def beNat (l : List Byte) : Nat := l.foldl (fun n b => n * 256 + b.toNat) 0

/-- The number in the `k` bytes from offset `i`; a byte beyond the end reads 0. -/
def numAt (l : List Byte) (i k : Nat) : Nat :=
  beNat ((List.range k).map fun j => (l[i + j]?).getD 0)

/-! ## Frames on the line (02 R25, 12 section 12.6) -/

/-- The bit string a frame's check covers: source to last payload byte, complement included (12 R197). -/
def RawFrame.covered (f : RawFrame) : List Bool :=
  bitsOf f.source ++ bitsOf f.complement ++ bitsOf f.cls ++ bitsOf f.kind ++ bitsOf f.dest ++
    bitsOf f.length ++ f.payload.flatMap bitsOf

/-- The source agrees with its complement (02 R25). -/
def RawFrame.agrees (f : RawFrame) : Bool := f.complement == ~~~ f.source

/-- Length 0 to 100 and check correct over the received fields (02 R25). -/
def RawFrame.good (f : RawFrame) : Bool :=
  decide (f.length.toNat ≤ 100) && f.payload.length == f.length.toNat && f.check == crcBits f.covered

/-- Which destinations a kind travels to (02 R26). -/
inductive DestKind where
  | all
  | station
  | either
  deriving DecidableEq, Repr

/-- The classes and the destination of each known kind, numbered as 12 section 12.6 says (02 R26). -/
def kindRow (kind : Nat) : Option (List Nat × DestKind) :=
  match kind with
  | 1 | 2 | 3 | 4 => some ([1], .all)
  | 5 => some ([3], .station)
  | 6 | 8 => some ([0, 1], .all)
  | 7 | 9 | 10 | 11 | 12 | 13 => some ([1], .all)
  | 14 => some ([1], .station)
  | 15 | 16 | 17 | 18 => some ([1], .all)
  | 19 => some ([1], .station)
  | 20 | 21 => some ([1], .all)
  | 22 => some ([3], .station)
  | 23 => some ([0, 1], .station)
  | 24 | 25 | 26 | 27 | 28 => some ([1], .station)
  | 29 => some ([2], .either)
  | 30 | 31 => some ([1], .station)
  | 32 => some ([3], .station)
  | 33 | 34 => some ([1], .station)
  | 35 | 36 => some ([3], .station)
  | 37 => some ([3], .all)
  | _ => none

/-- The kind is known and travels at this class to this destination (02 R25, R26); 16 is ALL. -/
def frameInPlace (cls kind dest : Nat) : Bool :=
  match kindRow kind with
  | none => false
  | some (cs, dk) =>
    cs.contains cls &&
      match dk with
      | .all => dest == 16
      | .station => decide (dest < 16)
      | .either => decide (dest ≤ 16)

/-- A kind of which a frame in place can have no row but UNKNOWN_FRAME (log 37): TAKE and GIVE, whose class is fixed by the word (02 R26); HIRE_COMMAND, whose command word can be unknown (05 R88); AUTH_REQUEST, FORWARD, JOURNAL_RECORD and JOURNAL_END, which no block of a CN40 owns (02 R26). -/
def rowless (kind : Nat) : Bool := [6, 8, 19, 30, 32, 35, 36].contains kind

/-- A HIRE_COMMAND in place: without a row of its own its command word is unknown (05 R88, 12 section 12.6). -/
def commandFrame (cls kind dest : Nat) : Bool := kind == 19 && frameInPlace cls kind dest

/-- Number of a picture-changing kind (12 section 12.6). -/
def PicFrame.kindNo : PicFrame → Nat
  | .hello _ => 1
  | .status _ => 2
  | .drop _ => 3
  | .take _ _ => 6
  | .takeSet _ _ => 7
  | .give _ => 8
  | .seize _ _ => 9
  | .shiftOpen _ _ _ => 10
  | .closeCall _ _ => 11
  | .closeCommit _ _ => 12
  | .closeAbandon => 13
  | .hireOpen _ _ _ _ => 15
  | .hireState _ _ => 16
  | .hireClose _ => 17
  | .hireReclaim _ _ _ _ _ => 18

/-- Number of a kind a CN40 offers (12 section 12.6). -/
def Frame.kindNo : Frame → Nat
  | .pic f => f.kindNo
  | .snapshotAsk => 4
  | .snapshot _ _ => 5
  | .closeReady _ _ _ => 14
  | .hireCommand _ _ => 19
  | .distance _ _ => 20
  | .time _ => 21
  | .fareReport _ _ => 22
  | .alert _ _ _ _ => 23
  | .call _ (.call _) => 24
  | .call _ .answer => 25
  | .call _ .held => 26
  | .call _ .resumed => 27
  | .call _ (.ended _) => 28
  | .voice _ _ => 29
  | .authRequest _ _ => 30
  | .forward _ _ => 32
  | .journalRecord _ _ _ _ => 35
  | .journalEnd _ _ _ _ _ => 36
  | .tally _ _ => 37

/-- TAKE and GIVE of ASSIST travel at class 0, every other picture-changing frame at class 1 (02 R26). -/
def PicFrame.cls : PicFrame → Nat
  | .take (some .assist) _ => 0
  | .give (some .assist) => 0
  | _ => 1

/-- The class a frame travels at (02 R26). -/
def Frame.cls : Frame → Nat
  | .pic f => f.cls
  | .alert _ .urgent _ _ => 0
  | .voice _ _ => 2
  | .snapshot _ _ => 3
  | .fareReport _ _ => 3
  | .forward _ _ => 3
  | .journalRecord _ _ _ _ => 3
  | .journalEnd _ _ _ _ _ => 3
  | .tally _ _ => 3
  | .snapshotAsk => 1
  | .closeReady _ _ _ => 1
  | .hireCommand _ _ => 1
  | .distance _ _ => 1
  | .time _ => 1
  | .alert _ .normal _ _ => 1
  | .call _ _ => 1
  | .authRequest _ _ => 1

/-- The destination a frame travels to (02 R26). -/
def Frame.dest : Frame → Dest
  | .pic _ => .all
  | .snapshotAsk => .all
  | .snapshot d _ => .station d
  | .closeReady d _ _ => .station d
  | .hireCommand d _ => .station d
  | .distance _ _ => .all
  | .time _ => .all
  | .fareReport d _ => .station d
  | .alert d _ _ _ => .station d
  | .call d _ => .station d
  | .voice d _ => d
  | .authRequest d _ => .station d
  | .forward d _ => .station d
  | .journalRecord d _ _ _ => .station d
  | .journalEnd d _ _ _ _ => .station d
  | .tally _ _ => .all

/-- A destination in the 5 bits of the frame: 16 is ALL (12 section 12.6). -/
def Dest.code : Dest → Nat
  | .station s => s.val
  | .all => 16

/-- Line-wait limit by class (02 R34). -/
def waitLimit (cls : Nat) : Time :=
  match cls with
  | 0 => ms 50
  | 1 => ms 250
  | 2 => ms 12
  | _ => sec 2

/-! ## Tags, seat sets, times -/

/-- A tag in 2 bytes: home station in the top 4 bits, sequence in the lower 12 (12 R197). -/
def Tag.code (t : Tag) : BitVec 16 := BitVec.ofNat 16 (t.home.val * 4096 + t.seq.val)

/-- The sequence of a hiring is 1 to 4095 (01 R4). -/
def Tag.inRange (t : Tag) : Bool := t.seq != 0

/-- The seat (0 is SEAT1) is in the set. -/
def SeatSet.has (s : SeatSet) (i : Fin 6) : Bool := s.getLsbD i.val

/-- Bits 6 and 7 are zero (12 R197). -/
def SeatSet.valid (s : SeatSet) : Bool := s &&& 0xC0#8 == 0#8

/-- The six seats in seat order. -/
def allSeats : List (Fin 6) := [0, 1, 2, 3, 4, 5]

/-- The seats of a set in seat order. -/
def SeatSet.seats (s : SeatSet) : List (Fin 6) := allSeats.filter (SeatSet.has s)

/-- Every seat of `s` is in `m`. -/
def SeatSet.within (s m : SeatSet) : Bool := s &&& ~~~ m == 0#8

/-- Seconds from 2000-01-01 00:00:00 to 2100-01-01 00:00:00: a clock is below it (04 R67). -/
def clockLimit : Nat := 3155760000

/-- Leap year by the Gregorian calendar (04 R65). -/
def isLeap (y : Nat) : Bool := y % 4 == 0 && (y % 100 != 0 || y % 400 == 0)

def monthDays (y m : Nat) : Nat :=
  match m with
  | 2 => if isLeap y then 29 else 28
  | 4 | 6 | 9 | 11 => 30
  | _ => 31

/-- Days from 2000-01-01 to the first day of the year, for years from 2000. -/
def daysBeforeYear (y : Nat) : Nat :=
  (List.range (y - 2000)).foldl (fun d i => d + if isLeap (2000 + i) then 366 else 365) 0

def daysBeforeMonth (y m : Nat) : Nat :=
  (List.range (m - 1)).foldl (fun d i => d + monthDays y (i + 1)) 0

/-- The fields name a real instant of the years 2000 to 2099 (04 R68). -/
def DateTime.real (t : DateTime) : Bool :=
  decide (2000 ≤ t.year ∧ t.year ≤ 2099 ∧ 1 ≤ t.month ∧ t.month ≤ 12 ∧ 1 ≤ t.day ∧
    t.day ≤ monthDays t.year t.month ∧ t.hour < 24 ∧ t.minute < 60 ∧ t.second < 60)

/-- The date-time in seconds since 2000-01-01 00:00:00 (12 R197). -/
def DateTime.secs (t : DateTime) : Nat :=
  ((daysBeforeYear t.year + daysBeforeMonth t.year t.month + (t.day - 1)) * 24 + t.hour) * 3600 +
    t.minute * 60 + t.second

/-- Weekday of a clock, Monday 0 to Sunday 6; 2000-01-01 was a Saturday (04 R65). -/
def weekday (clock : Nat) : Nat := (clock / 86400 + 5) % 7

/-- Minute of the day, 0 to 1439. -/
def minuteOfDay (clock : Nat) : Nat := clock % 86400 / 60

/-- The day is marked in a 7-day mask with Monday at the most significant bit (12 section 12.8). -/
def dayMarked (mask : BitVec 7) (d : Nat) : Bool := mask.getLsbD (6 - d)

/-- Whether a window of the band schedule covers the clock (04 R65). -/
def Window.covers (w : Window) (clock : Nat) : Bool :=
  let m := minuteOfDay clock
  let d := weekday clock
  if w.start < w.stop then
    decide (w.start ≤ m) && decide (m < w.stop) && dayMarked w.days d
  else if w.start = w.stop then
    dayMarked w.days d
  else if w.start ≤ m then
    dayMarked w.days d
  else
    decide (m < w.stop) && dayMarked w.days ((d + 6) % 7)

/-- The band the schedule gives; band 1 with the clock unset or with no window matching (04 R65). -/
def Cfg.bandAt (c : Cfg) (clock : Option Nat) : Nat :=
  match clock with
  | none => 1
  | some t =>
    match c.windows.find? (fun w => w.covers t) with
    | some w => w.band
    | none => 1

/-- A band of the tariff table, numbered from 1. -/
def Cfg.band (c : Cfg) (n : Nat) : Band := (c.bands[n - 1]?).getD Band.zero

/-- A code of the extras table, numbered from 1. -/
def Cfg.extra (c : Cfg) (code : Nat) : ExtraCode := (c.extras[code - 1]?).getD ⟨0, false⟩

/-- Number of an alert kind, 1 to 24 (07 R116). -/
def AlertKind.no (k : AlertKind) : Nat := k.ctorIdx + 1

/-- The entry of the routing map for a kind (07 R117). -/
def Cfg.routeOf (c : Cfg) (k : AlertKind) : RouteEntry := (c.routes[k.no - 1]?).getD ⟨.none, .normal⟩

/-! ## The configuration memory (12 section 12.8, 03 R48) -/

def decodeBand (m : List Byte) (i : Nat) : Option Band :=
  let o := 0x010 + 16 * i
  let b : Band :=
    ⟨numAt m o 3, numAt m (o + 3) 2, numAt m (o + 5) 2, numAt m (o + 7) 2, numAt m (o + 9) 2, numAt m (o + 11) 2, numAt m (o + 13) 2⟩
  if b.flagFall ≤ 99999 ∧ b.solo ≤ 9999 ∧ b.shared1 ≤ 9999 ∧ b.shared2 ≤ 9999 ∧ b.shared3 ≤ 9999 ∧
      b.shared4 ≤ 9999 ∧ b.waiting ≤ 9999 ∧ numAt m (o + 15) 1 = 0 then some b else none

def decodeWindow (m : List Byte) (bands : Nat) (i : Nat) : Option Window :=
  let v := BitVec.ofNat 32 (numAt m (0x090 + 4 * i) 4)
  let w : Window :=
    ⟨v.extractLsb' 25 7, (v.extractLsb' 14 11).toNat, (v.extractLsb' 3 11).toNat, (v.extractLsb' 0 3).toNat + 1⟩
  if w.start ≤ 1439 ∧ w.stop ≤ 1439 ∧ w.band ≤ bands then some w else none

def decodeExtra (m : List Byte) (i : Nat) : Option ExtraCode :=
  let a := numAt m (0x0D0 + 4 * i) 3
  if a ≤ 99999 then some ⟨a, (m[0x0D3 + 4 * i]?).getD 0 |>.getLsbD 0⟩ else none

def decodeRoute (m : List Byte) (i : Nat) : Option RouteEntry :=
  let v := numAt m (0x0F0 + i) 1
  let cls := if v / 4 % 2 = 1 then AlertClass.urgent else .normal
  if v / 8 ≠ 0 then none
  else match v % 4 with
    | 0 => some ⟨.none, cls⟩
    | 1 => some ⟨.console, cls⟩
    | 2 => some ⟨.bay, cls⟩
    | _ => some ⟨.both, cls⟩

/-- The first `n` items, all in range, or none. -/
def decodeAll {α : Type} (f : Nat → Option α) : Nat → Option (List α)
  | 0 => some []
  | n + 1 =>
    match decodeAll f n, f n with
    | some l, some a => some (l ++ [a])
    | _, _ => none

/-- The configuration fields, or none where a field is out of its range (12 section 12.8). -/
def decodeFields (m : List Byte) : Option Cfg :=
  let nb := numAt m 0x00E 1
  let nw := numAt m 0x00F 1
  let mask : SeatSet := (m[0x004]?).getD 0
  let flags := numAt m 0x005 1
  let metres := numAt m 0x006 1
  let q := numAt m 0x007 1
  let pulses := numAt m 0x008 2
  let floor := numAt m 0x00A 3
  let cap := numAt m 0x00D 1
  let first := numAt m 0x108 2
  let last := numAt m 0x10A 2
  if SeatSet.valid mask && decide (flags ≤ 1 ∧ 1 ≤ metres ∧ metres ≤ 100 ∧ 1 ≤ q ∧ 1 ≤ pulses ∧ pulses ≤ 4095 ∧
      floor ≤ 99999 ∧ cap ≤ 60 ∧ 1 ≤ nb ∧ nb ≤ 8 ∧ nw ≤ 16 ∧ first ≤ last ∧ last ≤ 0x1FD) then
    match decodeAll (decodeBand m) nb, decodeAll (decodeWindow m nb) nw, decodeAll (decodeExtra m) 8,
        decodeAll (decodeRoute m) 24 with
    | some bands, some windows, some extras, some routes =>
      some { vehicleId := BitVec.ofNat 32 (numAt m 0 4), seatMask := mask, passengerStart := flags == 1,
             metresPerUnit := metres, driveQuietQ := q, pulsesPerUnit := pulses, floorLimit := floor,
             offlineCap := cap, bands := bands, windows := windows, extras := extras, routes := routes,
             digestFirst := first, digestLast := last }
    | _, _, _, _ => none
  else none

/-- The stored check covers bytes 0x000 to 0x1FD (12 R197). -/
def memoryCheck (m : List Byte) : Bool := crcBytes (m.take 0x1FE) == BitVec.ofNat 16 (numAt m 0x1FE 2)

/-- The configuration as CONFIG reads it: none is CONFIG_FAULT (03 R48). -/
def decodeConfig (memory : Option (List Byte)) : Option Cfg :=
  match memory with
  | none => none
  | some m => if m.length = 512 && memoryCheck m then decodeFields m else none

/-- The config digest: the check over the bytes of the digest span (03 R48). -/
def configDigest (m : List Byte) (c : Cfg) : BitVec 16 :=
  crcBytes ((m.drop c.digestFirst).take (c.digestLast - c.digestFirst + 1))

/-! ## Console link and card link messages (12 section 12.6, R191) -/

def startByte : Byte := 0xA5

/-- A message in the framing both links use. -/
def linkMessage (kind : Byte) (payload : List Byte) : List Byte :=
  let body := BitVec.ofNat 8 payload.length :: kind :: payload
  startByte :: (body ++ beBytes 2 (crcBytes body).toNat)

/-- The message passes the reception checks of R191 that do not concern time: start byte, length at most 100, check. -/
def linkGood (bytes : List Byte) : Bool :=
  match bytes with
  | s :: len :: kind :: rest =>
    s == startByte && decide (len.toNat ≤ 100) && rest.length == len.toNat + 2 &&
      crcBytes (len :: kind :: rest.take len.toNat) == BitVec.ofNat 16 (beNat (rest.drop len.toNat))
  | _ => false

/-- The message being received fails: its length is above 100, or it is whole and its check is wrong (12 R191). -/
def linkFails (bytes : List Byte) : Bool :=
  match bytes with
  | _ :: len :: _ => decide (100 < len.toNat) || (bytes.length == len.toNat + 5 && !linkGood bytes)
  | _ => false

/-- One more byte at the receiver (12 R191, log 43): it discards bytes until it reads the start byte, then assembles the message, and discards one that fails. A whole message stands until the next byte. -/
def linkReceive (rx : List Byte) (b : Byte) : List Byte :=
  let l := if rx.isEmpty || linkGood rx then (if b = startByte then [b] else []) else rx ++ [b]
  if linkFails l then [] else l

/-- Number of a refusal reason in a result message, 1 to 14 (12 section 12.6). -/
def Reason.no (r : Reason) : Nat := r.ctorIdx + 1

/-- Payload byte of a result: 0 for DONE, or the reason (12 section 12.6). -/
def resultCode : Option Reason → Nat
  | none => 0
  | some r => r.no

/-- A result message's bytes. -/
def resultMessage (r : Option Reason) : List Byte := linkMessage 0x80 [BitVec.ofNat 8 (resultCode r)]

/-- Text codes the card engine chooses itself (12 section 12.7). -/
def textOfflineOk : Byte := 252
def textNoLink : Byte := 253
def textReadError : Byte := 254
def textRetryLimit : Byte := 255

/-- A CARD_PRESENTED payload of 17 bytes as the card engine takes it (12 section 12.7). -/
def decodeCard (p : List Byte) : CardRead :=
  let b := (p[16]?).getD 0
  ⟨p.take 16, (b &&& 0x0F#8).toNat, some (if b.getLsbD 7 then .insert else .tap), b.getLsbD 6⟩

/-! ## Payloads of the central frames (12 section 12.7) -/

def Mode.code : Mode → Nat
  | .solo => 0
  | .shared => 1

def EntryMode.bit : EntryMode → Nat
  | .tap => 0
  | .insert => 1

def Half.code : Half → Nat
  | .a => 0
  | .b => 1

def hireOpenBytes (tag : Tag) (mode : Mode) (seats : SeatSet) (start : Stamp) : List Byte :=
  beBytes 2 tag.code.toNat ++ [BitVec.ofNat 8 mode.code, seats] ++ beBytes 4 start.secs ++
    beBytes 2 (if start.unset then 1 else 0)

def distanceBytes (n : Nat) (running : BitVec 16) : List Byte := beBytes 1 n ++ beBytes 2 running.toNat

def authRequestBytes (r : AuthReq) : List Byte :=
  beBytes 2 r.seq.toNat ++ beBytes 2 r.tag.code.toNat ++ beBytes 4 r.amount ++ r.token ++
    beBytes 1 (r.scheme % 16 + 128 * r.entry.bit)

/-- `l` padded with zero bytes to `n`, and cut there. -/
def padTo (n : Nat) (l : List Byte) : List Byte := (l ++ List.replicate n 0).take n

/-- A count carried in 3 bytes, at most 16,777,215 (12 section 12.7). -/
def capped (n : Nat) : Nat := min n 16777215

def bit (b : Bool) (k : Nat) : Nat := if b then 2 ^ k else 0

/-- The 84 bytes of a HIRING_CLOSED record. -/
def ClosedRec.bytes (c : ClosedRec) : List Byte :=
  let pair (p : Nat × Nat) : List Byte := beBytes 3 ((p.1 - 1) * 2 ^ 21 + p.2)
  beBytes 2 c.tag.code.toNat ++ [BitVec.ofNat 8 (128 * c.mode.code + c.seats.toNat)] ++ beBytes 4 c.start.secs ++
    beBytes 4 c.stop.secs ++ beBytes 3 (capped c.distance) ++ beBytes 1 c.metresPerUnit ++
    beBytes 3 (capped c.waiting) ++ beBytes 3 c.fare ++ beBytes 3 (c.waived.getD 0) ++
    beBytes 1 (16 * c.subtotals.length + c.extras.length) ++ beBytes 3 c.cash ++ beBytes 3 c.card ++
    beBytes 3 c.unpaid ++ padTo 6 (c.approval.getD []) ++ beBytes 2 (c.gap.getD 0) ++
    padTo 24 (c.subtotals.flatMap pair) ++ padTo 18 (c.extras.flatMap pair)

def ClosedRec.flags (c : ClosedRec) : Nat :=
  bit c.limited 2 + bit c.offline 3 + bit c.unpaidFlag 4 + bit c.cancelled 5 + bit c.gapFlag 6 + bit c.restart 7 +
    bit c.start.unset 8 + bit c.stop.unset 9 + bit c.approval.isSome 10

/-- The counters of a tally in the order of the layout, without the band totals. -/
def TallyVals.counters (t : TallyVals) : List Nat :=
  [t.hirings, t.cancelled, t.fares, t.extras, t.cash, t.cardOnline, t.cardOffline, t.unpaid, t.offline, t.forwarded, t.limited]

/-- Some counter is carried capped, or the tally itself is saturated (12 section 12.7). -/
def TallyVals.satFlag (t : TallyVals) : Bool :=
  t.saturated || (t.counters ++ t.bands.toList ++ [t.hired, t.empty, t.seconds]).any (fun n => decide (16777215 < n))

/-- The 84 bytes of a SHIFT_CLOSE or VEHICLE_SUMMARY record. -/
def tallyBytes (shift : Nat) (t : TallyVals) (missing : List Station) : List Byte :=
  padTo 84 (beBytes 2 shift ++ (t.counters ++ t.bands.toList ++ [t.hired, t.empty, t.seconds]).flatMap (fun n => beBytes 3 (capped n)) ++
    beBytes 2 (missing.foldl (fun m s => m ||| 2 ^ s.val) 0))

/-- Number of a record kind, 1 to 9 (12 section 12.7). -/
def RecBody.kindNo (b : RecBody) : Nat := b.ctorIdx + 1

/-- The kind's flags, from bit 2 upward (12 section 12.7). -/
def RecBody.flags : RecBody → Nat
  | .hiringClosed c => c.flags
  | .shiftClose t f o => bit f 2 + bit o 3 + bit t.satFlag 4
  | .vehicleSummary v => bit v.sums.satFlag 2
  | _ => 0

/-- The last 84 bytes, for the three kinds whose layout the manual gives (12 section 12.7). -/
def RecBody.bytes : RecBody → Option (List Byte)
  | .hiringClosed c => some c.bytes
  | .shiftClose t _ _ => some (tallyBytes (t.shift.getD 0) t [])
  | .vehicleSummary v => some (tallyBytes v.shift v.sums v.missing)
  | _ => none

/-- The first 12 bytes of a record: number, kind, origin station, time, flags (12 section 12.7). -/
def RingRec.header (r : RingRec) : List Byte :=
  beBytes 4 r.number.toNat ++ beBytes 1 r.content.body.kindNo ++ beBytes 1 r.content.origin.val ++
    beBytes 4 r.content.time.secs ++
    beBytes 2 (bit r.content.time.unset 0 + bit r.content.eventsLost 1 + r.content.body.flags)

/-- A JOURNAL_RECORD payload, where the layout is given. -/
def journalRecordBytes (h : Half) (pos : Nat) (r : RingRec) : Option (List Byte) :=
  r.content.body.bytes.map fun b => beBytes 1 h.code ++ beBytes 1 pos ++ r.header ++ b

/-- Number of the console's request kinds: 0x01 to 0x15 are known (12 section 12.6). -/
def consoleKindKnown (kind : Byte) : Bool := decide (1 ≤ kind.toNat ∧ kind.toNat ≤ 0x15)

/-- The kind of a message the console port sends: 0x80 a result, 0x81 to 0x87 the reports (12 section 12.6). -/
def Machine.ConsoleMsg.kind : Machine.ConsoleMsg → Nat
  | .result _ => 0x80
  | .report (.alert _ _ _) => 0x81
  | .report (.fare _ _) => 0x82
  | .report (.sign _) => 0x83
  | .report (.call _) => 0x84
  | .report (.status _) => 0x85
  | .report (.summary _) => 0x86
  | .report .deferredOverflow => 0x87

/-- The bytes of a message to the card reader (12 section 12.7). -/
def Machine.ReaderMsg.bytes : Machine.ReaderMsg → List Byte
  | .arm a => linkMessage 0x01 (beBytes 4 a)
  | .result v t => linkMessage 0x02 [if v = .approved then 0 else 1, t]
  | .idle => linkMessage 0x03 []

end Sys2Proof
end

