-- ==== Sys2Proof/Machine/Flags.lean ====
section
/-! DEFINITION. What the blocks read: the picture's conditions (01 R2 to R5), the slot's amounts (05 R83), the node's own flags (10 R172), the displays (12 R194, 06 R109). -/

namespace Sys2Proof

/-! ## Claim words -/

/-- The word's record (01 R3). -/
def Claims.get (c : Claims) : WordId → Claim
  | .floor => c.floor
  | .lane => c.lane
  | .shift => c.shift
  | .close => c.close
  | .drain => c.drain
  | .assist => c.assist
  | .seat i =>
    match i with
    | 0 => c.seat1
    | 1 => c.seat2
    | 2 => c.seat3
    | 3 => c.seat4
    | 4 => c.seat5
    | 5 => c.seat6

/-- The words with one of them replaced. -/
def Claims.set (c : Claims) (w : WordId) (v : Claim) : Claims :=
  match w with
  | .floor => { c with floor := v }
  | .lane => { c with lane := v }
  | .shift => { c with shift := v }
  | .close => { c with close := v }
  | .drain => { c with drain := v }
  | .assist => { c with assist := v }
  | .seat i =>
    match i with
    | 0 => { c with seat1 := v }
    | 1 => { c with seat2 := v }
    | 2 => { c with seat3 := v }
    | 3 => { c with seat4 := v }
    | 4 => { c with seat5 := v }
    | 5 => { c with seat6 := v }

def Claim.isFree (c : Claim) : Bool := c.holder.isNone

def Claim.heldBy (c : Claim) (s : Station) : Bool := c.holder == some s

/-- The number of free seat words (06 R108). -/
def Claims.freeSeats (c : Claims) : Nat := (allSeats.filter fun i => (c.get (.seat i)).isFree).length

/-! ## The picture (01 R2, R4) -/

/-- What an absent picture reads as (01 R1). -/
def Picture.absent : Picture := ⟨[], Machine.Claims.free, [], none, 0, 0⟩

def Picture.entry (p : Picture) (s : Station) : Option RosterEntry := p.roster.find? fun e => e.station == s

def Picture.claim (p : Picture) (w : WordId) : Claim := p.claims.get w

def RosterEntry.inServiceAs (e : RosterEntry) (r : Role) : Bool := e.role == r && e.state == .inService

/-- A station of that role is in service (01 R2). -/
def Picture.inService (p : Picture) (r : Role) : Bool := p.roster.any fun e => e.inServiceAs r

/-- A HEAD is in service (01 R2). -/
def Picture.headIn (p : Picture) : Bool := p.inService .head

/-- The lowest-numbered station of that role in service; the roster is in station order (01 R2, 09 R148). -/
def Picture.lowest (p : Picture) (r : Role) : Option Station :=
  (p.roster.find? fun e => e.inServiceAs r).map fun e => e.station

/-- Some roster station has lockout, whatever its state (01 R2). -/
def Picture.lockout (p : Picture) : Bool := p.roster.any fun e => e.lockout

/-- The station is an in-service CN40 (01 R2). -/
def Picture.cn40 (p : Picture) (s : Station) : Bool :=
  match p.entry s with
  | some e => (e.role == .head || e.role == .bay) && e.state == .inService
  | none => false

/-- The station has role HEAD and state IN_SERVICE. -/
def Picture.isHead (p : Picture) (s : Station) : Bool :=
  match p.entry s with
  | some e => e.inServiceAs .head
  | none => false

/-- The station's entry has that role, in any state. -/
def Picture.hasRole (p : Picture) (s : Station) (r : Role) : Bool :=
  match p.entry s with
  | some e => e.role == r
  | none => false

/-- The station's entry has that role and is IN_SERVICE or LISTENER. -/
def Picture.present (p : Picture) (s : Station) (r : Role) : Bool :=
  match p.entry s with
  | some e => e.role == r && (e.state == .inService || e.state == .listener)
  | none => false

def Picture.hiring (p : Picture) (t : Tag) : Option HiringEntry := p.hirings.find? fun h => h.tag == t

/-- Occupancy: SHARED entries RUNNING or HELD (01 R4). -/
def Picture.occupancy (p : Picture) : Nat :=
  (p.hirings.filter fun h =>
    h.mode == .shared && (h.state == .active .running || h.state == .active .held)).length

def Picture.holds (p : Picture) (w : WordId) (s : Station) : Bool := (p.claim w).heldBy s

def Picture.free (p : Picture) (w : WordId) : Bool := (p.claim w).isFree

def HiringEntry.isOrphan (h : HiringEntry) : Bool :=
  match h.state with
  | .orphaned _ => true
  | .active _ => false

def Half.other : Half → Half
  | .a => .b
  | .b => .a

/-- First position of a half. -/
def Half.first : Half → Nat
  | .a => 0
  | .b => 128

def StrapRole.role : StrapRole → Role
  | .head => .head
  | .bay => .bay

end Sys2Proof

namespace Sys2Proof.Machine

/-! ## The node -/

/-- IN_SERVICE or LISTENER: the states that hold a picture (01 R1). -/
def NodeState.serving (n : NodeState) : Bool := n == .inService || n == .listener

/-- The states in which the local ports are served: after CONFIG (12 R193, R194). -/
def NodeState.started (n : NodeState) : Bool := !(n == .reset || n == .config)

/-- JOINING or FOUNDING. -/
def NodeState.joining? (n : NodeState) : Bool := n == .joining || n == .founding

def Core.me (c : Core) : Station := c.straps.station

def Core.isHead (c : Core) : Bool := c.straps.role == .head

def Core.isBay (c : Core) : Bool := c.straps.role == .bay

def Core.inService (c : Core) : Bool := c.node == .inService

def Core.serving (c : Core) : Bool := c.node.serving

/-- The picture as the blocks read it (01 R1). -/
def Core.view (c : Core) : Picture := c.pic.getD Picture.absent

/-- The node's clock as a record or a frame carries it (04 R70). -/
def Work.stamp (w : Work) : Stamp :=
  match w.ret.clock with
  | some t => ⟨t, false⟩
  | none => ⟨0, true⟩

/-! ## The hiring slot (05 R83) -/

def SlotState.name : SlotState → SlotName
  | .free => .free
  | .starting _ => .starting
  | .running => .running
  | .held _ => .held
  | .paying => .paying
  | .closing _ => .closing
  | .resuming _ _ => .resuming

def SlotState.isFree : SlotState → Bool
  | .free => true
  | _ => false

def SlotState.holdReason : SlotState → Option HoldReason
  | .held r => some r
  | _ => none

/-- A FREE slot has no tag (05 R83). -/
def Slot.tag? (s : Slot) : Option Tag := if s.state.isFree then none else some s.tag

def Slot.extrasTotal (s : Slot) : Nat := (s.extras.map fun e => e.2).sum

/-- Fare plus extras; a cancelled hiring owes nothing (05 R83, R96). -/
def Slot.totalDue (s : Slot) : Nat := if s.cancelled then 0 else s.fare + s.extrasTotal

def Slot.remaining (s : Slot) : Nat := s.totalDue - s.cash - s.card - s.unpaid

/-- The fare report of a slot as it stands (04 R64, R81, log 46). -/
def Slot.report (s : Slot) (cfg : Cfg) : FareRep where
  tag := s.tag
  state := s.state.name
  hold := s.state.holdReason
  fare := s.fare
  extras := s.extrasTotal
  totalDue := s.totalDue
  cash := s.cash
  card := s.card
  remaining := s.remaining
  band := s.band
  distance := s.distance
  metresPerUnit := cfg.metresPerUnit
  waiting := s.waiting
  limited := s.limited

/-! ## The journal's flags (10 R171, R172) -/

def HalfState.waiting (h : HalfState) : Bool := h == .ready || h == .streaming

/-- The half that holds a position (10 R169). -/
def halfOf (pos : Nat) : Half := if pos < 128 then .a else .b

def Journal.half (j : Journal) : Half → HalfRing
  | .a => j.halfA
  | .b => j.halfB

def Journal.setHalf (j : Journal) (h : Half) (r : HalfRing) : Journal :=
  match h with
  | .a => { j with halfA := r }
  | .b => { j with halfB := r }

/-- The half at the write position is READY or STREAMING (10 R171). -/
def Journal.lockout (j : Journal) : Bool := (j.half (halfOf j.writePos)).state.waiting

/-- The STATUS a node would send now (01 R10, 10 R172, 09 R158). -/
def statusNow (c : Core) (w : Work) : StatusPay where
  state := some (if c.node == .listener then .listener else .inService)
  lockout := w.ret.journal.lockout
  halfA := w.ret.journal.halfA.state.waiting
  halfB := w.ret.journal.halfB.state.waiting
  fwd := w.ret.card.forward.length

/-! ## The sign (06 R107 to R110) -/

/-- The sign state and digit that the picture and the node line state give (06 R107). -/
def signOf (c : Core) : SignState × Option Nat :=
  let p := c.view
  if !c.inService then (.suspended, none)
  else if p.free .shift then (.offDuty, none)
  else if !p.free .close then (.offDuty, none)
  else if !p.headIn || p.lockout then (.suspended, none)
  else if p.hirings.any (fun h => h.mode == .solo) then (.hired, none)
  else if p.hirings.isEmpty then (.forHire, none)
  else if p.hirings.length < 4 && decide (0 < p.claims.freeSeats) then (.share, some p.claims.freeSeats)
  else (.hired, none)

/-- The assist overlay (06 R110): a node without a picture reads ASSIST as free. -/
def overlayOf (c : Core) : Bool := !c.view.free .assist

/-- Lamp outputs by sign state, the assist lamp apart (06 R109). -/
def lampOn (st : SignState) : LampId → Bool
  | .forHire => st == .forHire
  | .hired => st == .hired
  | .share => st == .share
  | .digit => st == .share
  | .offDuty => st == .offDuty
  | .assist => false

def Sign.lamp (g : Sign) : LampId → Lamp
  | .forHire => g.forHire
  | .hired => g.hired
  | .share => g.share
  | .digit => g.digitLamp
  | .offDuty => g.offDuty
  | .assist => g.assist

def Sign.setLamp (g : Sign) (l : LampId) (v : Lamp) : Sign :=
  match l with
  | .forHire => { g with forHire := v }
  | .hired => { g with hired := v }
  | .share => { g with share := v }
  | .digit => { g with digitLamp := v }
  | .offDuty => { g with offDuty := v }
  | .assist => { g with assist := v }

/-- The six lamps in the order of 06 R106. -/
def allLamps : List LampId := [.forHire, .hired, .share, .digit, .offDuty, .assist]

/-- What the seat digit lamp shows: every segment during the test, else the seat digit (06 R109, R111). -/
def Sign.numeral (g : Sign) : Option Nat := if g.test.isSome then some 8 else g.digit

/-- The fields of the report SIGN (06 R114). -/
def signView (c : Core) (g : Sign) : SignView where
  state := g.state
  digit := g.digit
  overlay := g.overlay
  faults := if c.straps.sign then some (allLamps.map fun l => (g.lamp l).fault) else none

/-! ## The bay (07 R123, 12 R194) -/

/-- The bay mask that the toggle and the transaction give (07 R123). -/
def maskOf (w : Work) : Bool := w.alerts.quietKey || !(w.ret.card.txn == .idle)

/-- The fare field of the bay display (12 R194). -/
def displayFare (w : Work) : Option Nat :=
  let s := w.ret.slot
  match s.state with
  | .running => some s.totalDue
  | .held _ => some s.totalDue
  | .paying => some s.remaining
  | .closing _ => some s.remaining
  | _ => none

/-- The state code of the bay display (12 R194). -/
inductive StateCode where
  | halt (r : HaltReason)
  | node (n : NodeState)
  | call (s : CallState)
  | slot (s : SlotName)
  deriving DecidableEq, Repr

def displayState (c : Core) (w : Work) : StateCode :=
  match c.node, c.halt with
  | .halted, some r => .halt r
  | n, _ =>
    if n.joining? || n == .detached then .node n
    else if w.ic.call != .idle then .call w.ic.call
    else .slot w.ret.slot.state.name

/-- The alert line of the bay display: kind number, count when above 1, payload value, which has two parts for the digests of CONFIG_MISMATCH and the kind and destination of LINE_FAIL (12 R194, 07 R116, R126). -/
def displayAlert (w : Work) : Option (Nat × Option Nat × Option Nat × Option Nat) :=
  w.alerts.showing.map fun s =>
    (s.1.alert.kind.no, if 1 < s.1.count then some s.1.count else none, s.1.alert.value, s.1.alert.value2)

/-- The tone the codec plays: the call's, else BUSY while one of the two has not ended (08 R127, log 14). -/
def Intercom.heard (i : Intercom) : Option Tone :=
  match i.tone with
  | some .ring => some .ring
  | some .ringback => some .ringback
  | none => if i.busy.isSome || i.talkBusy.isSome then some .busy else none

/-- What the report CALL shows (08 R144). -/
def callView (c : Core) (i : Intercom) : CallView where
  call := i.call
  peer := i.peer
  outgoing := i.outgoing
  urgent := i.urgent
  placed := i.placed
  talk := i.talk
  floor := (c.view.claim .floor).holder
  tone := i.heard

/-- What the report STATUS shows (12 R193). The vehicle id of a node that CONFIG_FAULT halted is that of the blank configuration, 0 (log 4). -/
def statusView (c : Core) (w : Work) : StatusView where
  node := c.node
  halt := c.halt
  station := c.me
  vehicleId := c.cfg.vehicleId
  pic := c.pic
  clock := w.ret.clock

end Sys2Proof.Machine
end

