-- ==== Sys2Proof/Machine/Ops.lean ====
section
/-! DEFINITION. The shared operations: time, the transmit selector with its FIFO and waiting sub-sources (02 section 2.5), the console's output queue (12 R191). -/

namespace Sys2Proof

/-- The console reason of an abandonment (12 R192). -/
def Abandon.reason : Abandon → Reason
  | .lineFail => .lineFail
  | .lineBusy => .lineBusy
  | _ => .notInService

end Sys2Proof

namespace Sys2Proof.Machine

/-! ## Answering a command -/

/-- A command whose effect is on the blocks: the next state, the queue and the core untouched. -/
def onWork (f : Core → Work → Work) (s : State) : Host.Outcome State Fault Refusal :=
  .next { s with node := { s.node with w := f s.node.core s.node.w } }

/-- A command that may change the node line state or the picture: the next state, the queue untouched. -/
def onNode (f : Node → Node) (s : State) : Host.Outcome State Fault Refusal :=
  .next { s with node := f s.node }

/-! ## Time (log 3) -/

/-- A timer's expiry is taken: the time base is at least at that moment. -/
def Work.reach (w : Work) (t : Time) : Work := { w with now := max w.now t }

/-! ## Offer slots -/

/-- A frame counts as begun from its first attempt on (02 R36). -/
def Offer.begun (o : Offer) : Bool := decide (0 < o.attempts)

def Selector.get (s : Selector) : SlotId → Option Offer
  | .picture => s.picture
  | .meter => s.meter
  | .command => s.command
  | .call => s.call
  | .card => s.card
  | .alert => s.alert
  | .voice => s.voice
  | .bulk => s.bulk

def Selector.set (s : Selector) (k : SlotId) (o : Option Offer) : Selector :=
  match k with
  | .picture => { s with picture := o }
  | .meter => { s with meter := o }
  | .command => { s with command := o }
  | .call => { s with call := o }
  | .card => { s with card := o }
  | .alert => { s with alert := o }
  | .voice => { s with voice := o }
  | .bulk => { s with bulk := o }

/-- The eight slots in the selector's order (02 R36). -/
def allSlots : List SlotId := [.picture, .meter, .command, .call, .card, .alert, .voice, .bulk]

/-- The producers that may offer in a node line state (02 R35). A refused offer is returned ABANDONED with NOT_IN_SERVICE at once; the callers leave their block as that return leaves it. -/
def Core.allows (c : Core) (p : Option Producer) : Bool :=
  match c.node with
  | .inService => true
  | .listener => true
  | .joining => p == some .join
  | .founding => p == some .join
  | _ => false

/-- A frame as it is offered now (02 R34). -/
def Work.newOffer (w : Work) (f : Frame) (p : Option Producer) (u : Purpose) : Offer :=
  ⟨f, p, u, w.now, 0, false, false, false⟩

/-- The frame in hand and not begun is no longer the one chosen in this round (02 R36, R39, R41). -/
def LineIf.dropHand (l : LineIf) (k : SlotId) : LineIf :=
  if l.inHand = some k ∧ l.sending = false then { l with inHand := none } else l

/-- Places a frame in one of the seven slots that have no FIFO, in the place of whatever it holds. -/
def place (c : Core) (k : SlotId) (f : Frame) (u : Purpose) (w : Work) : Work :=
  if c.allows none then
    { w with sel := w.sel.set k (some (w.newOffer f none u)), line := w.line.dropHand k }
  else w

/-- The slot holds a frame that is begun. -/
def Selector.busy (s : Selector) (k : SlotId) : Bool :=
  match s.get k with
  | some o => o.begun
  | none => false

/-- A waiting frame not begun leaves its slot (02 R37 WITHDRAWN). -/
def withdrawSlot (k : SlotId) (w : Work) : Work :=
  match w.sel.get k with
  | some o => if o.begun then w else { w with sel := w.sel.set k none, line := w.line.dropHand k }
  | none => w

/-! ## The picture-frame FIFO (02 R38, R39) -/

/-- The front of the FIFO moves into the free PICTURE slot (02 R38). -/
def Selector.advance (s : Selector) : Selector :=
  match s.picture, s.fifo with
  | none, o :: rest => { s with picture := some o, fifo := rest }
  | _, _ => s

def Offer.isBy (o : Offer) (p : Producer) : Bool := o.producer == some p

/-- The producer has a frame in the FIFO or in the PICTURE slot (02 R38). -/
def Selector.has (s : Selector) (p : Producer) : Bool :=
  (match s.picture with
   | some o => o.isBy p
   | none => false) || s.fifo.any fun o => o.isBy p

/-- The producer's frame, not begun. -/
def Selector.waiting? (s : Selector) (p : Producer) : Option Offer :=
  match s.picture with
  | some o => if o.isBy p then (if o.begun then none else some o) else s.fifo.find? fun o => o.isBy p
  | none => s.fifo.find? fun o => o.isBy p

/-- The assist frame goes to the head of the FIFO, before a PICTURE frame that is not begun (02 R39). -/
def Selector.pushAssist (s : Selector) (o : Offer) : Selector :=
  match s.picture with
  | some q => if q.begun then { s with fifo := o :: s.fifo } else { s with picture := some o, fifo := q :: s.fifo }
  | none => { s with picture := some o }

/-- A producer hands a picture frame over (02 R38, R39). A producer that already has one waits. -/
def offerPic (c : Core) (p : Producer) (u : Purpose) (f : Frame) (w : Work) : Work :=
  if c.allows (some p) && !w.sel.has p then
    let o := w.newOffer f (some p) u
    if p = .assist then
      { w with sel := w.sel.pushAssist o, line := if w.sel.busy .picture then w.line else w.line.dropHand .picture }
    else { w with sel := Selector.advance { w.sel with fifo := w.sel.fifo ++ [o] } }
  else w

/-- The producer's frame, if not begun, is rewritten where it stands (02 R38). -/
def Selector.rewrite (s : Selector) (p : Producer) (f : Frame) : Selector :=
  let g (o : Offer) : Offer := if o.isBy p && !o.begun then { o with frame := f } else o
  { s with picture := s.picture.map g, fifo := s.fifo.map g }

/-- The producer's frame, if not begun, is withdrawn (02 R37, R45). -/
def withdrawPic (p : Producer) (w : Work) : Work :=
  let keep (o : Offer) : Bool := o.begun || !o.isBy p
  let gone : Bool := match w.sel.picture with
    | some o => !keep o
    | none => false
  { w with
    sel := Selector.advance { w.sel with picture := w.sel.picture.filter keep, fifo := w.sel.fifo.filter keep }
    line := if gone then w.line.dropHand .picture else w.line }

/-! ## COMMAND and BULK (02 R42) -/

/-- COMMAND: the console port's frame first, then CLOSE_READY. -/
def feedCommand (c : Core) (w : Work) : Work :=
  if !c.allows none || w.sel.command.isSome then w
  else match w.sel.waitConsole, w.sel.waitReady with
    | some f, _ => { w with sel := { w.sel with command := some (w.newOffer f none .console), waitConsole := none } }
    | none, some f => { w with sel := { w.sel with command := some (w.newOffer f none .plain), waitReady := none } }
    | none, none => w

/-- BULK: SNAPSHOT, TALLY, FORWARD, JOURNAL, FARE_REPORT, in that order. -/
def feedBulk (c : Core) (w : Work) : Work :=
  if !c.allows none || w.sel.bulk.isSome then w
  else
    let put (f : Frame) (s : Selector) : Work := { w with sel := { s with bulk := some (w.newOffer f none .plain) } }
    match w.sel.waitSnapshot, w.sel.waitTally, w.sel.waitForward, w.sel.waitJournal, w.sel.waitFare with
    | some f, _, _, _, _ => put f { w.sel with waitSnapshot := none }
    | none, some f, _, _, _ => put f { w.sel with waitTally := none }
    | none, none, some f, _, _ => put f { w.sel with waitForward := none }
    | none, none, none, some f, _ => put f { w.sel with waitJournal := none }
    | none, none, none, none, some f => put f { w.sel with waitFare := none }
    | none, none, none, none, none => w

/-- A frame in the BULK slot of this kind, not begun, is withdrawn. -/
def withdrawBulk (kind : Frame → Bool) (w : Work) : Work :=
  match w.sel.bulk with
  | some o => if kind o.frame then withdrawSlot .bulk w else w
  | none => w

/-- A begun frame of this kind in the BULK slot changes nothing at its source any more (10 R176, 03 R54). -/
def killBulk (kind : Frame → Bool) (w : Work) : Work :=
  let g (o : Offer) : Offer := if kind o.frame then { o with dead := true } else o
  { w with sel := { w.sel with bulk := w.sel.bulk.map g } }

/-- The BULK slot holds a frame of this kind that is begun. -/
def Selector.bulkBegun (s : Selector) (kind : Frame → Bool) : Bool :=
  match s.bulk with
  | some o => kind o.frame && o.begun
  | none => false

/-! ## Choosing (02 R36) -/

/-- The slot whose frame goes next: lowest class, then earlier slot. -/
def Selector.choose (s : Selector) : Option SlotId :=
  let cls (k : SlotId) : Option Nat := (s.get k).map fun o => o.frame.cls
  [0, 1, 2, 3].findSome? fun n => allSlots.find? fun k => cls k == some n

/-! ## Emptying (02 R35) -/

/-- The offer whose attempt is under way when the node leaves service; the join producer's own frames stay as they are on the way to JOINING. -/
def Offer.leave (toJoining : Bool) (o : Offer) : Offer :=
  if toJoining && o.isBy .join then o else { o with leaving := true }

/-- The selector empties itself, but for the frame whose attempt is under way and, on the way to JOINING, the join producer's frames (02 R35). -/
def emptySelector (toJoining : Bool) (w : Work) : Work :=
  let under (k : SlotId) : Bool := w.line.sending && w.line.inHand == some k
  let keep (k : SlotId) (o : Option Offer) : Option Offer :=
    match o with
    | some o => if under k then some (o.leave toJoining) else if toJoining && o.isBy .join then some o else none
    | none => none
  let s := w.sel
  let s' : Selector :=
    { Selector.empty with
      picture := keep .picture s.picture
      meter := keep .meter s.meter
      command := keep .command s.command
      call := keep .call s.call
      card := keep .card s.card
      alert := keep .alert s.alert
      voice := keep .voice s.voice
      bulk := keep .bulk s.bulk
      fifo := if toJoining then s.fifo.filter fun o => o.isBy .join else [] }
  { w with sel := s'.advance, line := if w.line.sending then w.line else { w.line with inHand := none } }

/-! ## The console's output queue (12 R191, log 12) -/

def ConsoleMsg.isReport : ConsoleMsg → Bool
  | .report _ => true
  | .result _ => false

/-- The oldest report leaves the queue. -/
def dropReport : List ConsoleMsg → List ConsoleMsg
  | [] => []
  | m :: rest => if m.isReport then rest else m :: dropReport rest

/-- The queue's front goes out when nothing is being sent. -/
def Console.pump (k : Console) : Console :=
  match k.sending, k.queue with
  | none, m :: rest => { k with sending := some m, queue := rest }
  | _, _ => k

/-- A message is placed (12 R191): with 16 in the queue the oldest report leaves first. Results are never discarded, so a queue of 16 results grows (log 60). -/
def Console.push (k : Console) (m : ConsoleMsg) : Console :=
  let q := if 16 ≤ k.queue.length then dropReport k.queue else k.queue
  Console.pump { k with queue := q ++ [m] }

/-- A report of the node's own account, at a HEAD after CONFIG (12 R193). -/
def report (c : Core) (r : Report) (w : Work) : Work :=
  if c.isHead && c.node.started then { w with con := w.con.push (.report r) } else w

/-- The result of the request in progress, which it ends (12 R192). -/
def answer (r : Option Reason) (w : Work) : Work :=
  { w with con := { w.con.push (.result r) with request := none } }

/-- A result that leaves the request in progress undisturbed: BUSY (12 R192). -/
def answerBusy (w : Work) : Work := { w with con := w.con.push (.result (some .busy)) }

/-- Ends the request in progress if it is this one. -/
def answerIf (q : Request) (r : Option Reason) (w : Work) : Work :=
  if w.con.request = some q then answer r w else w

/-- The report STATUS (12 R193). -/
def reportStatus (c : Core) (w : Work) : Work := report c (.status (statusView c w)) w

/-! ## The status producer (02 R38, 10 R172) -/

/-- The status producer is told of a change: the waiting STATUS is rewritten, or one is offered; one that is begun is compared at its outcome. -/
def statusTold (c : Core) (w : Work) : Work :=
  let f := Frame.pic (.status (statusNow c w))
  if (w.sel.waiting? .status).isSome then { w with sel := w.sel.rewrite .status f }
  else offerPic c .status .plain f w

end Sys2Proof.Machine
end

