-- ==== Sys2Proof/Machine/Alerts.lean ====
section
/-! DEFINITION. The alert router and the bay alert line (07). -/

namespace Sys2Proof.Machine

/-! ## The outbound queue (07 R118, R119) -/

/-- The lost count stops at 255 (07 R119). -/
def Alerts.lose (a : Alerts) (n : Nat) : Alerts := { a with lost := min 255 (a.lost + n) }

/-- The oldest part of a class that is not in the slot leaves; none when there is no such part. -/
def dropPart (cls : AlertClass) : List Part → Option (List Part)
  | [] => none
  | p :: rest => if p.cls = cls ∧ p.inSlot = false then some rest else (dropPart cls rest).map fun r => p :: r

/-- URGENT parts stand ahead of NORMAL parts (07 R118). -/
def insertPart (p : Part) (q : List Part) : List Part :=
  match p.cls with
  | .normal => q ++ [p]
  | .urgent => q.filter (fun x => x.cls == .urgent) ++ [p] ++ q.filter (fun x => x.cls == .normal)

/-- A part joins the queue, or is settled against a full one (07 R118; log 23 for a NORMAL part that stands in the slot). -/
def Alerts.addPart (a : Alerts) (p : Part) : Alerts :=
  if a.queue.length < 8 then { a with queue := insertPart p a.queue }
  else match dropPart .normal a.queue with
    | some q => Alerts.lose { a with queue := insertPart p q } 1
    | none =>
      match p.cls, dropPart .urgent a.queue with
      | .urgent, some q => Alerts.lose { a with queue := insertPart p q } 1
      | _, _ => a.lose 1

/-- A part's destination is ready (07 R118). -/
def PartDest.ready (d : PartDest) (p : Picture) : Bool :=
  match d with
  | .head => p.headIn
  | .bay s =>
    match p.entry s with
    | some e => e.state == .inService || e.state == .listener
    | none => false

/-- A part bound for a station that has no entry at all (07 R118), its frame not in the slot (log 49). -/
def Part.homeless (x : Part) (p : Picture) : Bool :=
  match x.dest with
  | .head => false
  | .bay s => (p.entry s).isNone && !x.inSlot

/-- Marks the part that goes to the slot. -/
def markPart (p : Picture) : List Part → Option (Part × List Part)
  | [] => none
  | x :: rest =>
    if x.dest.ready p then some (x, { x with inSlot := true } :: rest)
    else (markPart p rest).map fun r => (r.1, x :: r.2)

/-- The router's standing work: parts without a home leave, and the first part whose destination is ready takes the free ALERT slot (07 R118). The frame carries the lost count, 0 to bays (07 R119). -/
def alertPoll (c : Core) (w : Work) : Work :=
  if !c.serving then w
  else
    let p := c.view
    let gone := (w.alerts.queue.filter fun x => x.homeless p).length
    let a := Alerts.lose { w.alerts with queue := w.alerts.queue.filter fun x => !x.homeless p } gone
    let w := { w with alerts := a }
    if w.sel.alert.isSome || a.queue.any (fun x => x.inSlot) then w
    else match markPart p a.queue with
      | none => w
      | some (x, q) =>
        let dst : Option (Station × Nat) := match x.dest with
          | .head => (p.lowest .head).map fun s => (s, a.lost)
          | .bay s => some (s, 0)
        match dst with
        | none => w
        | some (s, lost) => place c .alert (.alert s x.cls x.alert lost) .plain { w with alerts := { a with queue := q } }

/-- The part in the slot after its frame's outcome (07 R119): none when it is removed. -/
def Part.after (x : Part) (r : FrameResult) : Option Part :=
  match r with
  | .taken => none
  | .refused => none
  | .noAnswer => if x.tries = 0 then some { x with tries := 1, inSlot := false } else none
  | .abandoned .lineBusy => if x.tries = 0 then some { x with tries := 1, inSlot := false } else none
  | .abandoned .lineFail => none
  | .abandoned _ => some { x with inSlot := false }
  | .applied => none

/-- The outcome of an ALERT frame that carried that lost count (07 R119). -/
def alertOutcome (r : FrameResult) (carried : Nat) (w : Work) : Work :=
  let a := w.alerts
  let gone := a.queue.any fun x => x.inSlot && (x.after r).isNone
  let q := a.queue.filterMap fun x => if x.inSlot then x.after r else some x
  let a := { a with queue := q }
  if r = .taken then { w with alerts := { a with lost := a.lost - carried } }
  else if gone then { w with alerts := a.lose 1 }
  else { w with alerts := a }

/-! ## The console path (07 R121, R122) -/

/-- One report ALERT: the HEAD's own carries its lost count, which returns to 0 (07 R121). -/
def reportAlert (c : Core) (a : AlertRec) (deferred : Bool) (carried : Option Nat) (w : Work) : Work :=
  match carried with
  | some n => report c (.alert a deferred n) w
  | none => report c (.alert a deferred w.alerts.lost) { w with alerts := { w.alerts with lost := 0 } }

/-- A console part is reported, or deferred while drive quiet is on (07 R121). -/
def consolePart (c : Core) (a : AlertRec) (cls : AlertClass) (carried : Option Nat) (w : Work) : Work :=
  if cls = .urgent ∨ w.meter.quiet = false then reportAlert c a false carried w
  else
    let l := w.alerts.deferred
    if l.length < 8 then { w with alerts := { w.alerts with deferred := l ++ [⟨a, carried⟩] } }
    else { w with alerts := { w.alerts with deferred := l.drop 1 ++ [⟨a, carried⟩], overflow := true } }

/-- Drive quiet has gone off: the deferred list is released (07 R122). -/
def releaseDeferred (c : Core) (w : Work) : Work :=
  let w1 := w.alerts.deferred.foldl (fun v d => reportAlert c d.alert true d.carried v) w
  let w2 := if w.alerts.overflow then report c .deferredOverflow w1 else w1
  { w2 with alerts := { w2.alerts with deferred := [], overflow := false } }

/-! ## The display path (07 R124 to R126) -/

/-- An item is shown when the line is blank (07 R126). -/
def Alerts.showNext (a : Alerts) (now : Time) : Alerts :=
  match a.showing, a.showQueue with
  | none, i :: rest => { a with showing := some (i, now + sec 3), showQueue := rest }
  | _, _ => a

/-- An item joins the tail of the show queue, which holds 24 (07 R126). -/
def Alerts.enqueue (a : Alerts) (now : Time) (i : Item) : Alerts :=
  let q := if a.showQueue.length < 24 then a.showQueue else a.showQueue.drop 1
  Alerts.showNext { a with showQueue := q ++ [i] } now

/-- Merges an item into the pending set, which stands in kind order (07 R124). -/
def mergeItem (i : Item) : List Item → List Item
  | [] => [i]
  | x :: rest =>
    if x.alert.kind = i.alert.kind then { i with count := min 255 (x.count + i.count) } :: rest
    else if i.alert.kind.no < x.alert.kind.no then i :: x :: rest
    else x :: mergeItem i rest

/-- A display part (07 R124, R126). -/
def displayPart (a : AlertRec) (cls : AlertClass) (w : Work) : Work :=
  match cls with
  | .urgent => { w with alerts := { w.alerts with showing := some (⟨a, 1, true⟩, w.now + sec 3) } }
  | .normal =>
    if w.alerts.mask then { w with alerts := { w.alerts with pending := mergeItem ⟨a, 1, false⟩ w.alerts.pending } }
    else { w with alerts := w.alerts.enqueue w.now ⟨a, 1, false⟩ }

/-- The mask has been set: the alert line is cleared of NORMAL items (07 R124). -/
def Alerts.hold (a : Alerts) : Alerts :=
  let shown := match a.showing with
    | some (i, _) => if i.urgent then [] else [i]
    | none => []
  let moved := shown ++ a.showQueue.filter fun i => !i.urgent
  { a with
    pending := moved.foldl (fun p i => mergeItem i p) a.pending
    showing := if shown.isEmpty then a.showing else none
    showQueue := a.showQueue.filter fun i => i.urgent }

/-- The mask has cleared: the pending set is handed to the alert line in kind order (07 R125). -/
def Alerts.release (a : Alerts) (now : Time) : Alerts :=
  a.pending.foldl (fun b i => b.enqueue now i) { a with pending := [] }

/-! ## Raising (07 R116, R117) -/

/-- A frame part: ASSIST_ACTIVE at a BAY makes none (07 R117). -/
def framePart (a : AlertRec) (cls : AlertClass) (d : PartDest) (w : Work) : Work :=
  { w with alerts := w.alerts.addPart ⟨a, cls, d, 0, false⟩ }

/-- The parts of an alert by route and role (07 R117); a HEAD makes its console part before its frame part (log 48). `frames`: frame parts may be made (not for a LINE_FAIL about an ALERT frame). -/
def raiseParts (c : Core) (frames : Bool) (a : AlertRec) (w : Work) : Work :=
  let e := c.cfg.routeOf a.kind
  let toConsole := e.route == .console || e.route == .both
  let toBay := e.route == .bay || e.route == .both
  if c.isBay then
    let w1 := if toBay then displayPart a e.cls w else w
    if toConsole && frames && a.kind != .assistActive then framePart a e.cls .head w1 else w1
  else
    let w1 := if toConsole then consolePart c a e.cls none w else w
    match a.tag with
    | some t => if toBay && frames && t.home != c.me then framePart a e.cls (.bay t.home) w1 else w1
    | none => w1

/-- A block raises an alert; the ALERT slot takes its frame part at once when it can. -/
def raise (c : Core) (a : AlertRec) (w : Work) : Work := alertPoll c (raiseParts c true a w)

/-- LINE_FAIL, carrying the frame's kind and destination (02 R33, 07 R117). -/
def raiseLineFail (c : Core) (f : Frame) (w : Work) : Work :=
  let a : AlertRec := { kind := .lineFail, origin := c.me, value := some f.kindNo, value2 := some f.dest.code }
  let about := match f with
    | .alert _ _ _ _ => true
    | _ => false
  raiseParts c (!about) a w

/-! ## Received ALERTs (07 R120) -/

/-- The addressee takes an ALERT: its role and the sender's, and the kind (07 R120). -/
def alertTaken (c : Core) (src : Station) (a : Option AlertRec) : Bool :=
  c.serving && a.isSome && c.view.hasRole src (if c.isHead then .bay else .head)

/-- The alert of a frame goes to the console path or the display path with the frame's class (07 R120). -/
def receiveAlert (c : Core) (cls : AlertClass) (a : AlertRec) (lost : Nat) (w : Work) : Work :=
  if c.isHead then consolePart c a cls (some lost) w else displayPart a cls w

end Sys2Proof.Machine
end

