-- ==== Sys2Proof/Machine/Intercom.lean ====
section
/-! DEFINITION. The intercom unit (08), and the bay mask with its notice to it (07 R123). -/

namespace Sys2Proof.Machine

/-! ## Reports and tones -/

/-- The intercom's own part of the state. -/
def Work.withIc (w : Work) (i : Intercom) : Work := { w with ic := i }

/-- The console is told when what the report CALL shows has changed since a moment (08 R144). -/
def callTold (c0 : Core) (i0 : Intercom) (c : Core) (w : Work) : Work :=
  if callView c w.ic = callView c0 i0 then w else report c (.call (callView c w.ic)) w

/-- A tone of the call, in the place of the one before (08 R127). -/
def Intercom.play (i : Intercom) (t : CallTone) : Intercom := { i with tone := some t }

/-- BUSY plays until a moment, or until the later end of one already under way (08 R127, log 14). -/
def Intercom.playBusy (i : Intercom) (stop : Time) : Intercom := { i with busy := some (max stop (i.busy.getD 0)) }

/-- The tone of the call stops; a BUSY is of no call in progress and plays to its end (08 R127, log 14). -/
def Intercom.quietTone (i : Intercom) : Intercom := { i with tone := none }

/-! ## The jitter queue (08 R142) -/

def Intercom.emptyJitter (i : Intercom) : Intercom :=
  { i with jitter := [], playout := .stopped, playing := none, source := none }

/-- The oldest frame starts to play. -/
def Intercom.playNext (i : Intercom) (st : Playout) : Intercom :=
  match i.jitter with
  | f :: rest => { i with jitter := rest, playing := some f, playout := st }
  | [] => { i with playing := none, playout := st }

/-- An accepted frame joins (08 R142). -/
def Intercom.join (i : Intercom) (src : Station) (f : List Byte) : Intercom :=
  let q := if i.jitter.length < 6 then i.jitter else i.jitter.drop 1
  let i := { i with jitter := q ++ [f], source := some src }
  match i.playout with
  | .stopped => { i with playout := .filling }
  | .filling => if 2 ≤ i.jitter.length then i.playNext .playing else i
  | .playing => i
  | .draining => if i.playing.isNone then i.playNext .draining else i

/-- A drain begins (08 R142). -/
def Intercom.drain (i : Intercom) : Intercom :=
  match i.playout with
  | .stopped => i
  | .draining => i
  | .filling => if i.jitter.isEmpty then i.emptyJitter else i.playNext .draining
  | .playing => if i.jitter.isEmpty && i.playing.isNone then i.emptyJitter else { i with playout := .draining }

/-- The end of a frame's 4 ms (08 R142). -/
def Intercom.frameEnd (i : Intercom) : Intercom :=
  match i.playout with
  | .playing => if i.jitter.isEmpty then { i with playing := none, playout := .filling } else i.playNext .playing
  | .draining => if i.jitter.isEmpty then i.emptyJitter else i.playNext .draining
  | _ => i

/-! ## Announcements at a bay (08 R136) -/

/-- FLOOR is held, with tag 16, by a station whose entry has role HEAD. -/
def announcer (c : Core) : Option Station :=
  let f := c.view.claim .floor
  match f.holder with
  | some h => if f.tag = 16 ∧ c.view.hasRole h .head = true then some h else none
  | none => none

/-- An idle bay joins an announcement (08 R136). -/
def annJoin (c : Core) (w : Work) : Work :=
  if c.isBay && c.serving && w.ic.call == .idle then
    match announcer c with
    | some h => { w with ic := { w.ic with call := .connected, peer := some (.station h), outgoing := false, announce := true } }
    | none => w
  else w

/-! ## Ending a call -/

/-- The call record of an ended call: IDLE, no peer, marks clear, its timer and tone stopped; a BUSY plays on (08 R127, log 14). -/
def Intercom.idle (i : Intercom) : Intercom :=
  { i.quietTone with call := .idle, peer := none, urgent := false, placed := false, answer := false, announce := false, ring := none }

/-- Frames of the call still in the list are discarded; the one in the CALL slot stays until its outcome (log 13). An announcement has no frames: what the list holds then is of an earlier call, and is still sent (08 R134). -/
def Intercom.discardList (i : Intercom) : Intercom :=
  if i.call == .connected && i.announce then i else { i with list := if i.handed then i.list.take 1 else [] }

/-- The talk state after BLOCKED: the BUSY of the press that found the floor taken ends with it, a tone of the call goes on (08 R127, R137). -/
def Intercom.unblock (i : Intercom) : Intercom := { i with talk := .quiet, talkBusy := none }

/-- A talk under way when the call ends (08 R137): TALKING stops and gives the floor up at once, BLOCKED becomes QUIET; a TAKE in the selector is then one of an ended call (its win is met with the GIVE), and a press whose TAKE is not offered yet asks no more (log 39). -/
def talkCut (c : Core) (w : Work) : Work :=
  match w.ic.talk with
  | .talking =>
    let w := withdrawSlot .voice { w with ic := { w.ic with talk := .ending, filling := [], ready := none, talkLimit := none } }
    if w.sel.has .intercom then w else offerPic c .intercom .plain (.pic (.give (some .floor))) w
  | .blocked => { w with ic := w.ic.unblock }
  | .asking =>
    match w.ic.ask with
    | .none => { w with ic := { w.ic with talk := .quiet } }
    | .current => { w with ic := { w.ic with ask := .stale } }
    | _ => w
  | _ => w

/-- The call ends at this party: by its own hang-up or the peer's CALL_END (`emptied`), or otherwise, when the jitter queue drains (08 R133, R142, R143, log 44). -/
def endCall (c : Core) (emptied : Bool) (discard : Bool) (w : Work) : Work :=
  let w := talkCut c w
  let i := if emptied then w.ic.emptyJitter else w.ic.drain
  let i := if discard then i.discardList else i
  annJoin c { w with ic := i.idle }

/-! ## The call frame list (08 R134) -/

def Intercom.append (i : Intercom) (s : Station) (f : CallFrame) : Intercom := { i with list := i.list ++ [(s, f)] }

/-- The front of the list goes to the free CALL slot (08 R134). A CALL of the console's request carries its purpose. -/
def callPoll (c : Core) (w : Work) : Work :=
  if c.serving && w.sel.call.isNone && !w.ic.handed then
    match w.ic.list with
    | [] => w
    | (s, f) :: _ =>
      let u : Purpose := match f with
        | .call _ => if w.con.request = some .call then .console else .plain
        | _ => .plain
      place c .call (.call s f) u { w with ic := { w.ic with handed := true } }
  else w

/-! ## Placing, answering, ringing -/

/-- A call is placed (08 R128). -/
def placeCall (s : Station) (urgent : Bool) (w : Work) : Work :=
  let i : Intercom :=
    { w.ic with call := .ringingOut, peer := some (.station s), outgoing := true, urgent := urgent, placed := true }
  { w with ic := i.append s (.call urgent) }

/-- The callee rings (08 R129, R130). -/
def Intercom.ringIn (i : Intercom) (now : Time) : Intercom :=
  { i.play .ring with call := .ringingIn, ring := some (now + sec 30) }

/-- The peer of a call with a station. -/
def Intercom.peerStation (i : Intercom) : Option Station :=
  match i.peer with
  | some (.station s) => some s
  | _ => none

/-- The callee answers (08 R131); an answer already on its way is not listed again (log 13). -/
def answerCall (w : Work) : Work :=
  match w.ic.call, w.ic.peerStation with
  | .ringingIn, some s =>
    if w.ic.answer then w
    else { w with ic := Intercom.append { w.ic.quietTone with answer := true, ring := none } s .answer }
  | _, _ => w

/-- A party hangs up (08 R133). -/
def hangUp (c : Core) (w : Work) : Work :=
  match w.ic.peerStation with
  | some s => endCall c true false { w with ic := w.ic.append s (.ended .hangup) }
  | none => w

/-- CALL_MISSED at the HEAD, when a call in which it is the callee ends unanswered (08 R132). -/
def missed (c : Core) (s : Station) (w : Work) : Work :=
  if c.isHead then raise c { kind := .callMissed, origin := c.me, value := some s.val } w else w

/-! ## The talk floor (08 R137 to R139) -/

/-- The tag of the TAKE: the peer's station number, or 16 for an announcement. -/
def Intercom.floorTag (i : Intercom) : BitVec 16 :=
  match i.peer with
  | some (.station s) => BitVec.ofNat 16 s.val
  | _ => 16

/-- A frame of 32 samples for this destination is placed: only by the talker that holds FLOOR (08 R138), in the VOICE slot, or as the ready frame behind a begun one (08 R139, 02 R41). -/
def placeVoiceTo (c : Core) (d : Dest) (f : List Byte) (w : Work) : Work :=
  if (w.ic.talk == .talking || w.ic.talk == .ending) && c.view.holds .floor c.me then
    if w.sel.busy .voice then { w with ic := { w.ic with ready := some (d, f) } }
    else place c .voice (.voice d f) .plain w
  else w

/-- A frame just completed is addressed to the peer, or to ALL during an announcement (08 R139). -/
def placeVoice (c : Core) (f : List Byte) (w : Work) : Work :=
  match w.ic.peer with
  | none => w
  | some d => placeVoiceTo c d f w

/-- One sample joins the filling frame; the 32nd completes it (08 R139). -/
def takeSample (c : Core) (b : Byte) (w : Work) : Work :=
  if c.serving && w.ic.talk == .talking then
    let f := w.ic.filling ++ [b]
    if f.length < 32 then { w with ic := { w.ic with filling := f } }
    else placeVoice c f { w with ic := { w.ic with filling := [] } }
  else w

/-- The end of a talk by release or talk limit: a filling frame with samples is padded with silence (08 R137). -/
def endTalk (c : Core) (w : Work) : Work :=
  let f := w.ic.filling
  let w := { w with ic := { w.ic with talk := .ending, talkLimit := none, filling := [] } }
  if f.isEmpty then w else placeVoice c ((f ++ List.replicate 32 Config.silence).take 32) w

/-- A talk press (08 R137) sets key held in any call state (log 53); with a station as peer and no announcement mark, QUIET asks for the floor. -/
def talkPress (w : Work) : Work :=
  let w := { w with ic := { w.ic with keyHeld := true } }
  if w.ic.talk == .quiet && w.ic.call == .connected && w.ic.peerStation.isSome && !w.ic.announce then
    { w with ic := { w.ic with talk := .asking, ask := .none } }
  else w

/-- A release (08 R137). -/
def talkRelease (c : Core) (w : Work) : Work :=
  let w := { w with ic := { w.ic with keyHeld := false } }
  match w.ic.talk with
  | .talking => endTalk c w
  | .blocked => { w with ic := w.ic.unblock }
  | _ => w

/-- The HEAD's announcement: CONNECTED with ALL. -/
def Intercom.announcing (i : Intercom) : Bool := i.call == .connected && i.peer == some .all

/-- The intercom producer's standing work when it has no frame: TAKE for a press, after the GIVE of a floor won for an ended call; GIVE at the end of a talk, GIVE of a floor nobody here uses (08 R137, R138). With a FORCE_CLAIM in progress that GIVE is the request's (08 R140). -/
def floorPoll (c : Core) (w : Work) : Work :=
  if !c.serving || w.sel.has .intercom then w
  else
    let give := Frame.pic (.give (some .floor))
    if w.con.request = some .forceFloor ∧ c.view.holds .floor c.me = true then offerPic c .intercom .console give w
    else match w.ic.talk with
    | .asking =>
      if w.ic.ask == .giveBack then
        if w.sel.voice.isNone then offerPic c .intercom .plain give w else w
      else if w.ic.call == .connected then
        let u : Purpose := if w.ic.announcing then .console else .plain
        offerPic c .intercom u (.pic (.take (some .floor) w.ic.floorTag)) { w with ic := { w.ic with ask := .current } }
      else { w with ic := { w.ic with talk := .quiet } }
    | .ending =>
      if w.ic.filling.isEmpty && w.ic.ready.isNone && w.sel.voice.isNone then offerPic c .intercom .plain give w else w
    | .talking => w
    | _ =>
      if c.view.holds .floor c.me then offerPic c .intercom .plain give w else w

/-- The talk begins: the limit of 60 s runs (08 R137). -/
def startTalk (w : Work) : Work :=
  { w with ic := { w.ic with talk := .talking, talkLimit := some (w.now + sec 60), filling := [], ready := none } }

/-- The TAKE of FLOOR ended with the floor won (08 R135, R137): the jitter queue is emptied, whether the talk begins or not (08 R142). One asked for in a call that has ended is met with the GIVE; an announcement asked for meanwhile has its own TAKE after that (log 39). -/
def floorWon (w : Work) : Work :=
  if w.ic.talk == .asking then
    let w := w.withIc w.ic.emptyJitter
    if w.ic.ask == .stale then
      { w with ic := if w.ic.announcing then { w.ic with ask := .giveBack } else { w.ic with talk := .ending, ask := .none } }
    else
      let w := { w with ic := { w.ic with ask := .none } }
      if w.ic.call == .connected && w.ic.keyHeld then startTalk w else { w with ic := { w.ic with talk := .ending } }
  else w

/-- The TAKE of FLOOR was BUSY or ABANDONED; an announcement does not start (08 R135, R137, log 14). One asked for in a call that has ended is decided by key held as any other, but leaves an announcement begun meanwhile to its own TAKE (log 39). -/
def floorLost (w : Work) : Work :=
  if w.ic.talk == .asking then
    let stale := w.ic.ask == .stale
    let stop := w.now + sec 1
    let w := { w with ic := { w.ic with ask := .none } }
    if w.ic.announcing then { w with ic := if stale then w.ic else { w.ic.idle with talk := .quiet }.playBusy stop }
    else if w.ic.keyHeld then { w with ic := { w.ic with talk := .blocked, talkBusy := some stop } }
    else { w with ic := { w.ic with talk := .quiet } }
  else w

/-- The intercom's own frame of FLOOR has been applied with a result. -/
def intercomOwn (f : PicFrame) (r : PicResult) (w : Work) : Work :=
  match f, r with
  | .take _ _, .won => floorWon w
  | .take _ _, .already => floorWon w
  | .take _ _, _ => floorLost w
  | .give _, _ => if w.ic.ask == .giveBack then { w with ic := { w.ic with ask := .none } } else w
  | _, _ => w

/-- The console's result of an announcement's TAKE or of a FORCE_CLAIM's SEIZE and GIVE (08 R135, R140): the frames of another purpose answer nothing. -/
def floorAnswer (f : PicFrame) (r : PicResult) (u : Purpose) (w : Work) : Work :=
  if u ≠ .console then w
  else match f, r with
  | .take _ _, .won => answerIf .announce none w
  | .take _ _, .already => answerIf .announce none w
  | .take _ _, _ => answerIf .announce (some .wrongState) w
  | .seize _ _, .won => w
  | .seize _ _, _ => answerIf .forceFloor (some .wrongState) w
  | .give _, _ => answerIf .forceFloor none w
  | _, _ => w

/-- The intercom's own picture frame has been ABANDONED (08 R135, R137, R140). -/
def intercomAbandoned (c : Core) (f : PicFrame) (u : Purpose) (a : Abandon) (w : Work) : Work :=
  match f with
  | .take _ _ =>
    let v := callTold c w.ic c (floorLost w)
    if u = .console then answerIf .announce (some a.reason) v else v
  | _ => if u = .console then answerIf .forceFloor (some a.reason) w else w

/-! ## Change notices (08 R136, R138, R142, R143) -/

/-- The floor has been taken from a talker, or its GIVE is applied (08 R138); an announcement ends with it (08 R135). A VOICE frame that waits with an attempt made is begun, and is sent on (log 62). -/
def floorCheck (c : Core) (w : Work) : Work :=
  if (w.ic.talk == .talking || w.ic.talk == .ending) && !c.view.holds .floor c.me then
    let i : Intercom :=
      { w.ic with talk := if w.ic.keyHeld then .blocked else .quiet, talkLimit := none, filling := [], ready := none }
    withdrawSlot .voice { w with ic := if i.announcing then i.idle else i }
  else w

/-- FLOOR has left the station whose frames the queue holds (08 R142). -/
def jitterCheck (c : Core) (w : Work) : Work :=
  match w.ic.source with
  | some s => if c.view.holds .floor s then w else { w with ic := w.ic.drain }
  | none => w

/-- An announcement is over at a bay whose queue has drained (08 R136). -/
def annLeave (c : Core) (w : Work) : Work :=
  if w.ic.announce && announcer c != w.ic.peerStation && w.ic.playout == .stopped then annJoin c { w with ic := w.ic.idle }
  else w

/-- The announcement's floor is gone: the queue drains (08 R136). -/
def annCheck (c : Core) (w : Work) : Work :=
  if w.ic.announce && announcer c != w.ic.peerStation then annLeave c { w with ic := w.ic.drain } else w

/-- The peer has been dropped or has returned to JOINING (08 R143); at the DROP of the HEAD an announcement follows FLOOR (08 R136). -/
def peerCheck (c : Core) (w : Work) : Work :=
  match w.ic.call, w.ic.peerStation with
  | .idle, _ => w
  | _, none => w
  | _, some s =>
    let lost : Bool := match c.view.entry s with
      | none => !w.ic.announce
      | some e => e.state == .joining
    if lost then endCall c false true w else w

/-- The intercom at a change notice, after its own frame's result. -/
def intercomNotice (c : Core) (w : Work) : Work :=
  w |> floorCheck c |> peerCheck c |> jitterCheck c |> annCheck c |> annJoin c

/-- Loss of service: the values of a start, but for the mask and key held (08 R127). -/
def intercomLost (w : Work) : Work :=
  { w with ic := { Intercom.init with mask := w.ic.mask, keyHeld := w.ic.keyHeld } }

/-! ## Frames from the peer -/

/-- The sender of a CALL is the other kind of party (08 R129). -/
def callParty (c : Core) (src : Station) : Bool := c.view.present src (if c.isHead then .bay else .head)

/-- A CALL (08 R129): none is REFUSED, else TAKEN with its effect. A crossing call connects. -/
def takeCall (c : Core) (src : Station) (urgent : Bool) (w : Work) : Option Work :=
  let i := w.ic
  if c.serving && callParty c src then
    match i.call with
    | .idle =>
      let j : Intercom := { i with peer := some (.station src), outgoing := false, urgent := urgent }
      if !i.list.isEmpty then none
      else if urgent || !i.mask then some { w with ic := j.ringIn w.now }
      else some { w with ic := Intercom.append { j with call := .heldIn } src .held }
    | .ringingOut =>
      if i.peerStation = some src then
        some { w with ic := Intercom.append { i.quietTone with call := .connected, ring := none } src .answer }
      else none
    | .connected => if i.peerStation = some src ∧ i.announce = false then some w else none
    | _ => none
  else none

/-- CALL_ANSWER (08 R131). -/
def takeAnswer (c : Core) (src : Station) (w : Work) : Option Work :=
  let i := w.ic
  if c.serving && i.peerStation == some src then
    match i.call with
    | .ringingOut => some { w with ic := { i.quietTone with call := .connected, ring := none } }
    | .connected => some w
    | _ => none
  else none

/-- CALL_HELD (08 R130). -/
def takeHeld (c : Core) (src : Station) (w : Work) : Option Work :=
  if c.serving && w.ic.peerStation == some src && w.ic.call == .ringingOut then
    some { w with ic := { w.ic.quietTone with call := .heldOut, ring := none } }
  else none

/-- CALL_RESUMED (08 R130). -/
def takeResumed (c : Core) (src : Station) (w : Work) : Option Work :=
  if c.serving && w.ic.peerStation == some src && w.ic.call == .heldOut then
    some { w with ic := { w.ic.play .ringback with call := .ringingOut, ring := some (w.now + sec 30) } }
  else none

/-- CALL_END (08 R133): the CALL_MISSED of one with NO_ANSWER is raised before the call's end is told to the console (log 48). -/
def takeEnd (c : Core) (src : Station) (r : EndReason) (w : Work) : Option Work :=
  if c.serving && w.ic.peerStation == some src && w.ic.call != .idle then
    let ringing := w.ic.call == .ringingIn
    let w := endCall c true true w
    some (if ringing && r == .noAnswer then missed c src w else w)
  else none

/-- What a VOICE frame must meet (08 R141). -/
def voiceAccepted (c : Core) (src : Station) (samples : List Byte) (w : Work) : Bool :=
  let f := c.view.claim .floor
  c.serving && samples.length == 32 && f.heldBy src &&
    (f.tag.toNat == c.me.val || (f.tag == 16 && c.isBay && w.ic.announce)) &&
    w.ic.call == .connected && w.ic.peerStation == some src && !(w.ic.talk == .talking || w.ic.talk == .ending)

/-! ## Outcomes of the intercom's frames -/

/-- A call with this station is in progress; an announcement is none (08 R134, R136). -/
def Intercom.stillWith (i : Intercom) (s : Station) : Bool := i.call != .idle && !i.announce && i.peerStation == some s

/-- The outcome of a call-control frame (08 R128, R131, R134): a call that ends by it ends by no hang-up and no CALL_END, so the jitter queue drains (08 R142). -/
def callOutcome (c : Core) (s : Station) (f : CallFrame) (r : FrameResult) (w : Work) : Work :=
  let w := { w with ic := { w.ic with list := w.ic.list.drop 1, handed := false } }
  let mine := w.ic.peerStation == some s
  match f with
  | .call _ =>
    if w.ic.call == .ringingOut && w.ic.placed && mine then
      match r with
      | .taken =>
        { w with ic := { w.ic.play .ringback with placed := false, ring := some (w.now + sec 30) } }
      | .refused =>
        annJoin c { w with ic := w.ic.idle.playBusy (w.now + sec 2) }
      | _ => annJoin c { w with ic := w.ic.idle }
    else { w with ic := { w.ic with placed := false } }
  | .answer =>
    if w.ic.call == .ringingIn && w.ic.answer && mine then
      if r = .taken then { w with ic := { w.ic with call := .connected, answer := false } }
      else endCall c false true w
    else { w with ic := { w.ic with answer := false } }
  | .held => if r ≠ .taken ∧ w.ic.stillWith s = true then endCall c false true w else w
  | .resumed => if r ≠ .taken ∧ w.ic.stillWith s = true then endCall c false true w else w
  | .ended _ => w

/-- The console reason of a CALL's outcome (08 R128). -/
def callResult : FrameResult → Option Reason
  | .taken => none
  | .applied => none
  | .refused => some .wrongState
  | .noAnswer => some .noAnswer
  | .abandoned a => some a.reason

/-- The VOICE slot is free again: the ready frame takes it (08 R139). -/
def voiceOutcome (c : Core) (w : Work) : Work :=
  match w.ic.ready with
  | some (d, f) => placeVoiceTo c d f { w with ic := { w.ic with ready := none } }
  | none => w

/-! ## Timers -/

/-- RING_LIMIT_EXPIRY (08 R132): a CALL_MISSED is raised before the call's end is told to the console (log 48). -/
def ringLimit (c : Core) (w : Work) : Work :=
  match w.ic.ring, w.ic.peerStation with
  | some t, some s =>
    let w := w.reach t
    let ringing := w.ic.call == .ringingIn
    let w := endCall c false false { w with ic := w.ic.append s (.ended .noAnswer) }
    if ringing then missed c s w else w
  | _, _ => w

/-- TALK_LIMIT_EXPIRY (08 R137). -/
def talkLimit (c : Core) (w : Work) : Work :=
  match w.ic.talkLimit with
  | some t => endTalk c (w.reach t)
  | none => w

/-- The moment the tone timer expires: the earlier end of the two BUSY tones (08 R127, log 14). -/
def Intercom.toneDue (i : Intercom) : Option Time :=
  match i.busy, i.talkBusy with
  | some a, some b => some (min a b)
  | some a, none => some a
  | none, b => b

/-- Each BUSY whose end has come stops (08 R127). -/
def Intercom.toneOver (t : Time) (i : Intercom) : Intercom :=
  let ended (e : Option Time) : Bool := e.any fun x => decide (x ≤ t)
  { i with busy := if ended i.busy then none else i.busy, talkBusy := if ended i.talkBusy then none else i.talkBusy }

/-- TONE_TIMER_EXPIRY (08 R127). -/
def toneTimer (w : Work) : Work :=
  match w.ic.toneDue with
  | some t => let w := w.reach t; { w with ic := w.ic.toneOver t }
  | none => w

/-! ## The bay mask (07 R123) -/

/-- The mask is worked out afresh; a change is acted on and noticed to the intercom unit (07 R123 to R125, 08 R130). -/
def maskUpdate (c : Core) (w : Work) : Work :=
  let m := maskOf w
  if c.isBay && m != w.alerts.mask then
    let a := { w.alerts with mask := m }
    let a := if m then a.hold else a.release w.now
    let i := { w.ic with mask := m }
    let i : Intercom :=
      match i.call, i.peerStation, m with
      | .heldIn, some s, false => (i.ringIn w.now).append s .resumed
      | _, _, _ => i
    { w with alerts := a, ic := i }
  else w

end Sys2Proof.Machine
end

