-- ==== Sys2Proof/Machine/Journal.lean ====
section
/-! DEFINITION. The shift tally's additions (11 R179 to R181), the intake and the ring (10 R165 to R173), the stream (10 section 10.5). -/

namespace Sys2Proof

/-! ## The tally's counters (11 R179, R180) -/

/-- The greatest value of a counter (11 R179). -/
def counterMax : Nat := 4294967295

/-- A counter after an addition: it stops at its greatest value. -/
def satAdd (n k : Nat) : Nat := min counterMax (n + k)

/-- Some counter of `a` would go past its greatest value. -/
def satOver : List Nat → List Nat → Bool
  | x :: a, y :: b => decide (counterMax < x + y) || satOver a b
  | _, _ => false

/-- Every counter of a tally. -/
def TallyVals.all (t : TallyVals) : List Nat := t.counters ++ [t.hired, t.empty, t.seconds] ++ t.bands.toList

/-- The counters of `b` added to those of `a`, saturating (11 R179, R189). -/
def TallyVals.plus (a b : TallyVals) : TallyVals where
  shift := a.shift
  hirings := satAdd a.hirings b.hirings
  cancelled := satAdd a.cancelled b.cancelled
  fares := satAdd a.fares b.fares
  extras := satAdd a.extras b.extras
  cash := satAdd a.cash b.cash
  cardOnline := satAdd a.cardOnline b.cardOnline
  cardOffline := satAdd a.cardOffline b.cardOffline
  unpaid := satAdd a.unpaid b.unpaid
  offline := satAdd a.offline b.offline
  forwarded := satAdd a.forwarded b.forwarded
  limited := satAdd a.limited b.limited
  bands := a.bands.zipWith satAdd b.bands
  hired := satAdd a.hired b.hired
  empty := satAdd a.empty b.empty
  seconds := satAdd a.seconds b.seconds
  saturated := a.saturated || b.saturated || satOver a.all b.all

/-- 1 or 0. -/
def one (b : Bool) : Nat := if b then 1 else 0

/-- What a HIRING_CLOSED record adds (11 R180). -/
def ClosedRec.tally (c : ClosedRec) : TallyVals :=
  { Machine.TallyVals.zero none with
    hirings := 1
    cancelled := one c.cancelled
    fares := c.fare
    extras := (c.extras.map fun e => e.2).sum
    cash := c.cash
    cardOnline := if c.offline then 0 else c.card
    cardOffline := if c.offline then c.card else 0
    unpaid := c.unpaid
    offline := one c.offline
    limited := one c.limited
    bands := if c.cancelled then Vector.replicate 8 0
      else Vector.ofFn fun b => ((c.subtotals.filter fun p => p.1 == b.val + 1).map fun p => p.2).sum }

def RecBody.isUnsent : RecBody → Bool
  | .unsentOffline _ => true
  | _ => false

def RecBody.isLate : RecBody → Bool
  | .lateApproval _ _ _ _ => true
  | _ => false

def Frame.isJournal : Frame → Bool
  | .journalRecord _ _ _ _ => true
  | .journalEnd _ _ _ _ _ => true
  | _ => false

end Sys2Proof

namespace Sys2Proof.Machine

/-- Something is added to the shift tally. -/
def tallyAdd (d : TallyVals) (w : Work) : Work :=
  { w with ret := { w.ret with tally := { w.ret.tally with tally := w.ret.tally.tally.plus d } } }

/-- A record as its producer builds it now (10 R165). -/
def Work.record (w : Work) (c : Core) (b : RecBody) : Record := ⟨b, c.me, w.stamp, false⟩

/-! ## The producers' holds -/

/-- A seal request passes to the record that is then oldest (11 R181). -/
def passSeal (carried : Bool) : List Held → List Held
  | [] => []
  | h :: rest => { h with sealReq := h.sealReq || carried } :: rest

/-- A record is placed in the tally hold; a full hold first discards its oldest (11 R181). -/
def holdTally (r : Record) (sealReq back : Bool) (w : Work) : Work :=
  let t := w.ret.tally
  let q := t.hold ++ [⟨r, sealReq, back⟩]
  let q' := if q.length ≤ 8 then q
    else match q with
      | h :: rest => passSeal h.sealReq rest
      | [] => []
  { w with ret := { w.ret with tally := { t with hold := q' } } }

/-- A HEAD event record is placed in the HEAD event hold, or lost (10 R168). -/
def headEvent (c : Core) (b : RecBody) (w : Work) : Work :=
  let j := w.ret.journal
  let j' : Journal :=
    if j.headHold.length < 8 then
      { j with headHold := j.headHold ++ [{ w.record c b with eventsLost := j.headLost }], headLost := false }
    else { j with headLost := true }
  if c.isHead then { w with ret := { w.ret with journal := j' } } else w

/-- What keeps a forced close's SHIFT_CLOSE record back (11 R187): forward-list entries and UNSENT_OFFLINE records. -/
def CardRet.unsent (k : CardRet) : Bool := !k.forward.isEmpty || k.hold.any fun r => r.body.isUnsent

/-- The record a producer hands next, with its seal request (10 R167). -/
def handed (p : RecProducer) (w : Work) : Option (Record × Bool) :=
  match p with
  | .hiring =>
    match w.ret.slot.state, w.ret.slot.closing with
    | .closing .record, some r => some (r, false)
    | _, _ => none
  | .card => w.ret.card.hold.head?.map fun r => (r, false)
  | .tally =>
    match w.ret.tally.hold with
    | h :: _ => if h.back && w.ret.card.unsent then none else some (h.content, h.sealReq)
    | [] => none
  | .headEvents => w.ret.journal.headHold.head?.map fun r => (r, false)

/-- The intake runs in every state but RESET, CONFIG and HALTED (10 R167, R170). -/
def NodeState.journalRuns (n : NodeState) : Bool := !(n == .reset || n == .config || n == .halted)

/-- The intake accepts from a producer: room, and no record of the same producer (10 R167). -/
def Journal.admits (j : Journal) (p : RecProducer) : Bool :=
  decide (j.intake.length < 4) && !j.intake.any fun t => t.producer == p

/-- What the producer does at acceptance: the hiring's close goes on (05 R98) and the tally counts it (11 R180); a SHIFT_OPEN record zeroes the tally (11 R183). -/
def accepted (p : RecProducer) (r : Record) (w : Work) : Work :=
  match p with
  | .hiring =>
    let s := w.ret.slot
    let w := { w with ret := { w.ret with slot := { s with state := .closing .removing, closing := none } } }
    match r.body with
    | .hiringClosed c => tallyAdd c.tally w
    | _ => w
  | .card => { w with ret := { w.ret with card := { w.ret.card with hold := w.ret.card.hold.drop 1 } } }
  | .tally =>
    let t := w.ret.tally
    let t := { t with hold := t.hold.drop 1 }
    match r.body with
    | .shiftOpen s => { w with ret := { w.ret with tally := { t with tally := TallyVals.zero (some s.number) } } }
    | _ => { w with ret := { w.ret with tally := t } }
  | .headEvents =>
    { w with ret := { w.ret with journal := { w.ret.journal with headHold := w.ret.journal.headHold.drop 1 } } }

/-- One acceptance, if there is one to make: one retained update (10 R167). HEAD events are handed at the HEAD only (10 R168). -/
def acceptFrom (c : Core) (p : RecProducer) (w : Work) : Option Work :=
  if c.node.journalRuns && w.ret.journal.admits p && (p != .headEvents || c.isHead) then
    match handed p w with
    | none => none
    | some (r, sealReq) =>
      let w := accepted p r w
      let j := w.ret.journal
      some { w with ret := { w.ret with journal := { j with intake := j.intake ++ [⟨r, p, sealReq⟩] } } }
  else none

/-- The producers in the order in which the intake takes them when several wait (log 8). -/
def producers : List RecProducer := [.hiring, .card, .tally, .headEvents]

/-! ## The ring (10 R170 to R173) -/

/-- The half just written, after a record has entered it: READY when it reached its last slot, or by the record's seal request. -/
def HalfRing.write (h : HalfRing) (r : RingRec) (close : Bool) : HalfRing :=
  { h with state := if close then .ready else .filling, recs := h.recs ++ [r] }

/-- The front record of the intake enters the ring (10 R170, R173); the number is the counter plus 1 (10 R165). -/
def Journal.move (j : Journal) : Option (Journal × Half × Bool) :=
  let h := halfOf j.writePos
  match j.intake with
  | [] => none
  | t :: rest =>
    if (j.half h).state.waiting then none
    else
      let full := j.writePos == 127 || j.writePos == 255
      let close := full || t.sealReq
      let n := j.counter + 1
      let j' := j.setHalf h ((j.half h).write ⟨n, t.content⟩ close)
      some ({ j' with intake := rest, counter := n,
                      writePos := if close then h.other.first else j.writePos + 1 }, h, close)

/-- A half has become READY: the alert, the status producer, and lockout if the other half waits (10 R170, R171). The alert carries half A as 0 and half B as 1 (07 R116, log 40). -/
def halfReady (c : Core) (h : Half) (w : Work) : Work :=
  let w := raise c { kind := .journalHalfReady, origin := c.me, value := some h.code } w
  let w := if w.ret.journal.lockout then raise c { kind := .journalLockout, origin := c.me } w else w
  statusTold c w

/-- One move into the ring, if there is one to make. -/
def moveOne (c : Core) (w : Work) : Option Work :=
  if c.node.journalRuns then
    match w.ret.journal.move with
    | none => none
    | some (j, h, close) =>
      let w := { w with ret := { w.ret with journal := j } }
      some (if close then halfReady c h w else w)
  else none

/-- One step of the journal: a move, else an acceptance. -/
def journalStep (c : Core) (w : Work) : Option Work :=
  match moveOne c w with
  | some w' => some w'
  | none => producers.findSome? fun p => acceptFrom c p w

/-- Acceptances and moves follow one another as long as there is one to make (10 R167, R170); the holds and the intake bound them. -/
def journalRun (c : Core) : Nat → Work → Work
  | 0, w => w
  | n + 1, w =>
    match journalStep c w with
    | some w' => journalRun c n w'
    | none => w

def journalPump (c : Core) (w : Work) : Work := journalRun c 80 w

/-! ## The stream (10 R174 to R177) -/

/-- The stream's next frame: the record at the next position, or JOURNAL_END after the last (10 R175). -/
def streamOffer (w : Work) : Work :=
  match w.stream with
  | none => w
  | some s =>
    let h := w.ret.journal.half s.half
    match h.recs[s.sent]? with
    | some r => { w with sel := { w.sel with waitJournal := some (.journalRecord s.reader s.half s.next r) } }
    | none =>
      let num (o : Option RingRec) : BitVec 32 := (o.map fun r => r.number).getD 0
      let f := Frame.journalEnd s.reader s.half h.recs.length (num h.recs.head?) (num h.recs.getLast?)
      { w with sel := { w.sel with waitJournal := some f }, stream := some { s with ended := true } }

/-- The streamed half takes a state and a streamed mark, and the cursor's half becomes none. -/
def endStream (mark : Option Station) (w : Work) : Work :=
  match w.stream with
  | none => w
  | some s =>
    let j := w.ret.journal
    let h := j.half s.half
    { w with stream := none, ret := { w.ret with journal := j.setHalf s.half { h with state := .ready, streamed := mark } } }

/-- The stream stops without completing (10 R176): a waiting frame is withdrawn. -/
def stopStream (w : Work) : Work :=
  if w.stream.isSome then
    killBulk Frame.isJournal (withdrawBulk Frame.isJournal (endStream none { w with sel := { w.sel with waitJournal := none } }))
  else w

/-- The outcome of a JOURNAL_RECORD or JOURNAL_END of the running stream (10 R175, R176). -/
def streamOutcome (r : FrameResult) (w : Work) : Work :=
  match w.stream with
  | none => w
  | some s =>
    if r = .taken then
      if s.ended then endStream (some s.reader) w
      else streamOffer { w with stream := some { s with next := s.next + 1, sent := s.sent + 1 } }
    else endStream none w

/-- A change notice after which DRAIN is not held by the stream's reader (10 R176). -/
def streamNotice (c : Core) (w : Work) : Work :=
  match w.stream with
  | none => w
  | some s => if c.view.holds .drain s.reader then w else stopStream w

/-- A JOURNAL_READ is taken (10 R174). -/
def readTaken (c : Core) (src : Station) (h : Half) (w : Work) : Bool :=
  c.serving && c.view.holds .drain src && (w.ret.journal.half h).state == .ready && w.stream.isNone

/-- The half becomes STREAMING and the first frame is offered (10 R174, R175). -/
def startStream (src : Station) (h : Half) (w : Work) : Work :=
  let j := w.ret.journal
  streamOffer
    { w with
      stream := some ⟨h, src, h.first, 0, false⟩
      ret := { w.ret with journal := j.setHalf h { j.half h with state := .streaming, streamed := none } } }

/-- A JOURNAL_RELEASE is taken (10 R177). -/
def releaseTaken (c : Core) (src : Station) (h : Half) (w : Work) : Bool :=
  c.serving && c.view.holds .drain src && (w.ret.journal.half h).state == .ready &&
    (w.ret.journal.half h).streamed == some src

/-- The half becomes FREE and empty, and the status producer is told (10 R177). -/
def releaseHalf (c : Core) (h : Half) (w : Work) : Work :=
  let j := w.ret.journal
  statusTold c { w with ret := { w.ret with journal := j.setHalf h HalfRing.free } }

end Sys2Proof.Machine
end

