-- ==== Sys2Proof/Machine/Hiring.lean ====
section
/-! DEFINITION. The hiring controller (05), with the fare record's charges (04 section 4.4) and the fare reports (04 section 4.7). -/

namespace Sys2Proof

def Frame.isFare : Frame → Bool
  | .fareReport _ _ => true
  | _ => false

/-- The seats of the two sensors: the two lowest of the node's mask (05 R105). -/
def sensorSeat (mask : SeatSet) (n : Nat) : Option (Fin 6) := (SeatSet.seats mask)[n]?

/-- A START reaches the preconditions of 05 R85, which name the node's state themselves (log 19). -/
def HireCmd.isStart : HireCmd → Bool
  | .start _ _ => true
  | _ => false

/-- A FARE_REPORT with other values, to the HEAD if there is one. -/
def Frame.refare (dst : Option Station) (r : FareRep) : Frame → Frame
  | .fareReport h _ => .fareReport (dst.getD h) r
  | f => f

end Sys2Proof

namespace Sys2Proof.Machine

/-- A change of the hiring slot. -/
def Work.onSlot (w : Work) (f : Slot → Slot) : Work := { w with ret := { w.ret with slot := f w.ret.slot } }

/-! ## Fare reports (04 R81) -/

/-- The HEAD a report goes to (log 10): the one in service, else any HEAD entry. -/
def fareDest (p : Picture) : Option Station :=
  match p.lowest .head with
  | some s => some s
  | none => (p.roster.find? fun e => e.role == .head).map fun e => e.station

/-- The report a marked slot gives: of the slot as it stands, or the one kept for the change to FREE. -/
def Work.fareNow (w : Work) (cfg : Cfg) : FareRep :=
  let r := w.ret.slot.report cfg
  if w.ret.slot.state.isFree then w.ret.slot.freed.getD r else r

/-- The report is built: the mark clears. -/
def fareBuilt (r : FareRep) (w : Work) : Work :=
  { w.onSlot (fun s => { s with reportMark := false }) with hire := { w.hire with lastReport := some r } }

/-- A report is offered behind BULK; with no HEAD to send it to, or out of service, it waits as a failed one (log 10). -/
def fareWait (c : Core) (r : FareRep) (w : Work) : Work :=
  match fareDest c.view with
  | some h =>
    if !c.allows none then { w with hire := { w.hire with retry := true } }
    else
      let w := fareBuilt r w
      { w with sel := { w.sel with waitFare := some (.fareReport h r) } }
  | none => { w with hire := { w.hire with retry := true } }

/-- A marked slot's report is offered, or rebuilt where it waits; a failed one waits for the next one-second expiry. The HEAD's goes to its console. -/
def farePoll (c : Core) (w : Work) : Work :=
  if !w.ret.slot.reportMark then w
  else
    let r := w.fareNow c.cfg
    if c.isHead then report c (.fare c.me r) (fareBuilt r w)
    else if w.hire.retry then w
    else match w.sel.waitFare with
      | some f =>
        let w := fareBuilt r w
        { w with sel := { w.sel with waitFare := some (f.refare (fareDest c.view) r) } }
      | none =>
        match w.sel.bulk with
        | some o =>
          if o.frame.isFare then
            if o.begun then w
            else
              let w := fareBuilt r w
              { w with sel := { w.sel with bulk := some { o with frame := o.frame.refare (fareDest c.view) r } } }
          else fareWait c r w
        | none => fareWait c r w

/-- The slot is marked for a report. -/
def fareMark (c : Core) (w : Work) : Work := farePoll c (w.onSlot fun s => { s with reportMark := true })

/-- The outcome of a FARE_REPORT (04 R81). -/
def fareOutcome (c : Core) (r : FrameResult) (w : Work) : Work :=
  if r = .taken then farePoll c w
  else { w.onSlot (fun s => { s with reportMark := true }) with hire := { w.hire with retry := true } }

/-- A waiting FARE_REPORT that the emptied selector returned marks the slot again (04 R81, 02 R35). `w` is the work before the emptying. -/
def fareEmptied (w w' : Work) : Work :=
  let inBulk := match w.sel.bulk with
    | some o => o.frame.isFare && w'.sel.bulk.isNone
    | none => false
  if w.sel.waitFare.isSome || inBulk then
    { w'.onSlot (fun s => { s with reportMark := true }) with hire := { w'.hire with retry := true } }
  else w'

/-- The fare, the distance units or the waiting seconds differ from the last report built. -/
def fareDiffers (w : Work) : Bool :=
  match w.hire.lastReport with
  | none => true
  | some r =>
    let s := w.ret.slot
    r.fare != s.fare || r.distance != s.distance || r.waiting != s.waiting

/-- The one-second expiry: a differing slot is marked, and a failed report is offered again. -/
def fareTick (c : Core) (w : Work) : Work :=
  let w := { w with hire := { w.hire with retry := false } }
  if !w.ret.slot.state.isFree && fareDiffers w then fareMark c w else farePoll c w

/-! ## The fare record (04 R76, R77) -/

/-- The most a fare can be (04 R76). -/
def fareMax : Nat := 999999

/-- An amount added to the band's entry, which is appended if there is none (04 R76). -/
def addSubtotal (band amount : Nat) : List (Nat × Nat) → List (Nat × Nat)
  | [] => [(band, amount)]
  | (b, a) :: rest => if b = band then (b, a + amount) :: rest else (b, a) :: addSubtotal band amount rest

/-- A charge at the band in force, limited by the fare cap (04 R76, R77). -/
def Slot.charge (s : Slot) (band amount : Nat) : Slot :=
  let a := min amount (fareMax - s.fare)
  { s with fare := s.fare + a, subtotals := addSubtotal band a s.subtotals,
           limited := s.limited || decide (fareMax < s.fare + amount) }

/-- FARE_LIMITED is raised when the limited flag is set (04 R77). -/
def charge (c : Core) (amount : Nat) (w : Work) : Work :=
  let s := w.ret.slot
  let s' := s.charge w.meter.band amount
  let w := w.onSlot fun _ => s'
  if s'.limited && !s.limited then raise c { kind := .fareLimited, origin := c.me, tag := some s.tag } w else w

/-- The fare record starts with the flag fall of the current band (04 R76). -/
def Slot.startFare (s : Slot) (cfg : Cfg) (band : Nat) : Slot :=
  let f := (cfg.band band).flagFall
  { s with band := band, fare := f, subtotals := [(band, f)], distance := 0, waiting := 0, gap := 0, limited := false,
           gapPending := false, extras := [] }

/-! ## Closing (05 R97) -/

/-- The HIRING_CLOSED record's fields (05 R97). -/
def Slot.closedRec (s : Slot) (cfg : Cfg) : ClosedRec where
  tag := s.tag
  mode := s.mode
  seats := s.seats
  start := s.start
  stop := s.stop
  distance := s.distance
  metresPerUnit := cfg.metresPerUnit
  waiting := s.waiting
  fare := if s.cancelled then 0 else s.fare
  waived := if s.cancelled then some s.fare else none
  subtotals := s.subtotals
  extras := s.extras
  cash := s.cash
  card := s.card
  unpaid := s.unpaid
  approval := s.approval
  gap := if 0 < s.gap then some s.gap else none
  limited := s.limited
  offline := s.offline
  unpaidFlag := s.unpaidFlag
  cancelled := s.cancelled
  gapFlag := decide (0 < s.gap)
  restart := s.restart

/-- Entering CLOSING: the end time, the record, step RECORD (05 R97). -/
def enterClosing (c : Core) (w : Work) : Work :=
  let s := { w.ret.slot with stop := w.stamp, state := .closing .record }
  let r := w.record c (.hiringClosed (s.closedRec c.cfg))
  fareMark c (w.onSlot fun _ => { s with closing := some r })

/-- Entering PAYING; a remaining amount of 0 goes straight on (05 R92). -/
def enterPaying (c : Core) (w : Work) : Work :=
  let w := fareMark c (w.onSlot fun s => { s with state := .paying })
  if w.ret.slot.remaining = 0 then enterClosing c w else w

/-- The slot becomes FREE (05 R99, R86): QUIET off (07 R123), a refused start raised, then the report with the final values (05 section 5.9, logs 41 and 48). -/
def slotFreed (c : Core) (w : Work) : Work :=
  let s := w.ret.slot
  let rep : FareRep := { s.report c.cfg with state := .free, hold := none }
  let w := w.onSlot fun _ => { Slot.cold with reportMark := true, freed := some rep }
  let w := if c.isBay then maskUpdate c { w with alerts := { w.alerts with quietKey := false } } else w
  let w := match s.refusal with
    | some r => raise c { kind := .startRefused, origin := c.me, reason := some (.start r) } w
    | none => w
  farePoll c w

/-- A seat has been given (05 R86, R99): after the last one the slot is FREE. -/
def seatGiven (c : Core) (i : Fin 6) (w : Work) : Work :=
  let w := w.onSlot fun s => { s with toGive := s.toGive.filter fun x => x != i }
  if w.ret.slot.toGive.isEmpty then slotFreed c w else w

/-! ## Starting (05 R84 to R87) -/

/-- The next sequence whose tag no hiring entry carries (05 R84). -/
def nextSeq (p : Picture) (me : Station) : Nat → Fin 4096 → Fin 4096
  | 0, n => n
  | k + 1, n =>
    let m : Fin 4096 := if n.val = 4095 then 1 else n + 1
    if (p.hiring ⟨me, m⟩).isSome then nextSeq p me k m else m

/-- The preconditions of a start, in order (05 R85). -/
def startCheck (c : Core) (seats : SeatSet) (mode : Option Mode) (w : Work) : Option Reason :=
  let p := c.view
  if !w.ret.slot.state.isFree then some .wrongState
  else if !c.inService then some .notInService
  else if seats == 0 || !SeatSet.within seats c.cfg.seatMask || mode.isNone then some .noSeats
  else if p.free .shift then some .offShift
  else if !p.free .close then some .closing
  else if p.lockout then some .lockout
  else if !p.headIn then some .headLost
  else none

/-- A start asked for: accepted into STARTING, or refused with START_REFUSED (05 R85). -/
def startHire (c : Core) (seats : SeatSet) (mode : Option Mode) (w : Work) : Option Reason × Work :=
  match startCheck c seats mode w with
  | some r => (some r, raise c { kind := .startRefused, origin := c.me, reason := some (.start r) } w)
  | none =>
    let n := nextSeq c.view c.me 5 w.ret.lastSeq
    let s : Slot := { Slot.cold with state := .starting .seats, tag := ⟨c.me, n⟩, mode := mode.getD .shared, seats := seats }
    (none, fareMark c { w with ret := { w.ret with slot := s, lastSeq := n } })

/-- Every seat to give back (05 R86, R98, R102). -/
def giveAll (st : SlotState) (s : Slot) : Slot := { s with state := st, toGive := SeatSet.seats s.seats }

/-! ## HEAD loss (04 R79) -/

/-- A RUNNING slot is held for HEAD loss (04 R79). -/
def headLossHold (c : Core) (w : Work) : Work :=
  match w.ret.slot.state with
  | .running =>
    let w := fareMark c (w.onSlot fun s => { s with state := .held .headLost })
    raise c { kind := .headLostHold, origin := c.me, tag := some w.ret.slot.tag } w
  | _ => w

/-! ## The standing offers (05 R86, R91, R98, R99, R101, R102, R104) -/

/-- The slot's state as its entry should read (05 R91). -/
def SlotState.asEntry : SlotState → Option HireState
  | .running => some .running
  | .held _ => some .held
  | .paying => some .paying
  | _ => none

/-- The state a HIRE_RECLAIM carries (05 R101). -/
def Prior.asEntry : Prior → HireState
  | .held _ => .held
  | .paying => .paying
  | _ => .running

/-- GIVE of the next seat to give. -/
def giveNext (c : Core) (w : Work) : Work :=
  match w.ret.slot.toGive with
  | i :: _ => offerPic c .hiring .plain (.pic (.give (some (.seat i)))) w
  | [] => slotFreed c w

/-- A HIRE_STATE that waits, not begun, while the slot is back in the state its entry reads: it is left waiting, with that state (05 R91, log 38). -/
def stateSettled (c : Core) (w : Work) : Work :=
  let s := w.ret.slot
  match w.sel.waiting? .hiring, s.state.asEntry, c.view.hiring s.tag with
  | some o, some x, some h =>
    match o.frame with
    | .pic (.hireState t _) =>
      if t = s.tag ∧ h.state = .active x then { w with sel := w.sel.rewrite .hiring (.pic (.hireState t (some x))) } else w
    | _ => w
  | _, _, _ => w

/-- What the hiring controller offers when its producer has no frame. A console CLEAR_ORPHAN goes ahead of the slot's own frame (05 R104). -/
def hiringPoll (c : Core) (w : Work) : Work :=
  if !c.serving then w
  else if w.sel.has .hiring then stateSettled c w
  else
    let s := w.ret.slot
    let put (f : PicFrame) : Work := offerPic c .hiring .plain (.pic f) w
    match w.con.request with
    | some (.clearOrphan t) => offerPic c .hiring .console (.pic (.hireClose t)) w
    | _ =>
      match s.state with
      | .starting .seats => put (.takeSet s.seats s.tag)
      | .starting .opening =>
        let w := w.onSlot fun s => { s with start := w.stamp }
        offerPic c .hiring .plain (.pic (.hireOpen s.tag (some s.mode) s.seats w.ret.slot.start)) w
      | .starting .returning => giveNext c w
      | .closing .removing => put (.hireClose s.tag)
      | .closing .releasing => giveNext c w
      | .resuming .seats _ => put (.takeSet s.seats s.tag)
      | .resuming .reclaiming prior => put (.hireReclaim s.tag (some prior.asEntry) (some s.mode) s.seats s.start)
      | .resuming .removing _ => put (.hireClose s.tag)
      | .resuming .returning _ => giveNext c w
      | st =>
        match st.asEntry, c.view.hiring s.tag with
        | some x, some h =>
          match h.state with
          | .active y => if x = y ∨ w.hire.stateRefused = some (s.tag, x) then w else put (.hireState s.tag (some x))
          | .orphaned _ => w
        | _, _ => w

/-! ## Results of the controller's own frames -/

/-- The slot of a refused reclaim goes to payment (05 R103). -/
def reclaimRefused (c : Core) (w : Work) : Work :=
  enterPaying c (w.onSlot fun s => { s with restart := true, gapPending := true })

/-- The slot of a completed reclaim returns to its prior state; RUNNING is held when no HEAD is in service (05 R101, 04 R79, R80). -/
def reclaimDone (c : Core) (prior : Prior) (w : Work) : Work :=
  let st : SlotState := match prior with
    | .held r => .held r
    | .paying => .paying
    | _ => .running
  let w := fareMark c (w.onSlot fun s => { s with state := st, gapPending := true })
  if c.view.headIn then w else headLossHold c w

/-- The controller's own frame has been applied with a result (05 R86, R87, R91, R98, R99, R101 to R103). -/
def hiringOwn (c : Core) (f : PicFrame) (r : PicResult) (w : Work) : Work :=
  let s := w.ret.slot
  match f, s.state with
  | .takeSet _ _, .starting .seats =>
    match r with
    | .busy => slotFreed c (w.onSlot fun s => { s with refusal := some .noSeats })
    | _ => w.onSlot fun s => { s with state := .starting .opening }
  | .takeSet _ _, .resuming .seats p => w.onSlot fun s => { s with state := .resuming .reclaiming p }
  | .hireOpen _ _ _ _, .starting .opening =>
    match r with
    | .refused x => w.onSlot fun s => giveAll (.starting .returning) { s with refusal := some x }
    | _ => fareMark c (w.onSlot fun s => { s.startFare c.cfg w.meter.band with state := .running })
  | .give (some (.seat i)), .starting .returning => seatGiven c i w
  | .give (some (.seat i)), .closing .releasing => seatGiven c i w
  | .give (some (.seat i)), .resuming .returning _ => seatGiven c i w
  | .hireState t (some x), _ =>
    match r with
    | .refused _ => { w with hire := { w.hire with stateRefused := some (t, x) } }
    | _ => w
  | .hireClose _, .closing .removing => w.onSlot (giveAll (.closing .releasing))
  | .hireClose _, .resuming .removing p => w.onSlot (giveAll (.resuming .returning p))
  | .hireReclaim _ _ _ _ _, .resuming .reclaiming p =>
    match r with
    | .refused _ => reclaimRefused c w
    | _ => reclaimDone c p w
  | _, _ => w

/-- The HEAD's HIRE_CLOSE for CLEAR_ORPHAN has been applied (05 R104). -/
def orphanResult (c : Core) (t : Tag) (r : PicResult) (w : Work) : Work :=
  match r with
  | .refused x => answerIf (.clearOrphan t) (some x) w
  | _ => answerIf (.clearOrphan t) none (headEvent c (.orphanCleared t) w)

/-- The controller's own frame has been ABANDONED (05 R86, R104); the others are offered again by `hiringPoll`. -/
def hiringAbandoned (c : Core) (f : PicFrame) (u : Purpose) (a : Abandon) (w : Work) : Work :=
  match f, w.ret.slot.state, u with
  | .hireClose t, _, .console => answerIf (.clearOrphan t) (some a.reason) w
  | .takeSet _ _, .starting .seats, _ => slotFreed c (w.onSlot fun s => { s with refusal := some a.reason })
  | .hireOpen _ _ _ _, .starting .opening, _ =>
    w.onSlot fun s => giveAll (.starting .returning) { s with refusal := some a.reason }
  | _, _, _ => w

/-- A change notice: `own` says that the frame was the controller's own (05 R91), `headWas` that a HEAD was in service before (04 R79). -/
def hiringNotice (c : Core) (own headWas : Bool) (w : Work) : Work :=
  let w := if own then w else { w with hire := { w.hire with stateRefused := none } }
  if headWas && !c.view.headIn then headLossHold c w else w

/-! ## Service lost, join finished (05 R100 to R102) -/

/-- The slot enters RESUMING at step WAIT, remembering its prior state (05 R100). -/
def SlotState.suspend : SlotState → SlotState
  | .free => .free
  | .starting _ => .resuming .wait .starting
  | .running => .resuming .wait .running
  | .held r => .resuming .wait (.held r)
  | .paying => .resuming .wait .paying
  | .closing st => .resuming .wait (.closing st)
  | .resuming _ p => .resuming .wait p

/-- The slot is suspended, and marked for a report (04 R81, 05 R100): one already in RESUMING, which enters it anew, too (log 61). -/
def hiringSuspend (c : Core) (w : Work) : Work :=
  if w.ret.slot.state.isFree then w
  else fareMark c (w.onSlot fun s => { s with state := s.state.suspend, refusal := none })

/-- The watch's counts return to 0 when the node leaves IN_SERVICE (05 R105). -/
def watchStop (w : Work) : Work :=
  { w with hire := { w.hire with watch1 := { w.hire.watch1 with count := 0 }, watch2 := { w.hire.watch2 with count := 0 } } }

/-- The finishing notice with the node IN_SERVICE: the reclaim begins (05 R101, R102). -/
def hiringFinish (c : Core) (w : Work) : Work :=
  match w.ret.slot.state with
  | .resuming .wait .starting =>
    if (c.view.hiring w.ret.slot.tag).isSome then w.onSlot fun s => { s with state := .resuming .removing .starting }
    else w.onSlot (giveAll (.resuming .returning .starting))
  | .resuming .wait (.closing st) => fareMark c (w.onSlot fun s => { s with state := .closing st })
  | .resuming .wait p => w.onSlot fun s => { s with state := .resuming .seats p }
  | _ => w

/-! ## Commands (05 R88 to R96) -/

/-- The slot carries the tag (05 R88). -/
def Slot.isTag (s : Slot) (t : Tag) : Bool := !s.state.isFree && s.tag == t

def Slot.open? (s : Slot) : Bool :=
  match s.state with
  | .running => true
  | .held _ => true
  | _ => false

def Slot.isPaying (s : Slot) : Bool := s.state == .paying

/-- The checks of an extra (04 R78). -/
def extraTaken (c : Core) (code : Nat) (w : Work) : Bool :=
  let s := w.ret.slot
  (s.open? || s.isPaying) && decide (1 ≤ code ∧ code ≤ 8) && decide (s.extras.length < 6) &&
    !((c.cfg.extra code).once && s.extras.any fun e => e.1 == code) && s.attempts == 0 && w.ret.card.txn == .idle

/-- After a payment: the report, and CLOSING when nothing remains (05 R93 to R95). -/
def paid (c : Core) (w : Work) : Work :=
  let w := fareMark c w
  if w.ret.slot.remaining = 0 then enterClosing c w else w

/-- The unpaid amount takes what remains (05 R95). -/
def takeUnpaid (c : Core) (w : Work) : Work :=
  enterClosing c (fareMark c (w.onSlot fun s => { s with unpaid := s.remaining, unpaidFlag := true }))

/-- A hiring command decided by the slot (05 R88): none when it is taken, else the reason it is refused with. -/
def hireCommand (c : Core) (cmd : HireCmd) (w : Work) : Option Reason × Work :=
  let s := w.ret.slot
  let no : Option Reason × Work := (some .wrongState, w)
  match cmd with
  | .start seats mode => startHire c seats mode w
  | .stop t => if s.isTag t && s.open? then (none, enterPaying c w) else no
  | .hold t =>
    if s.isTag t && s.state == .running then (none, fareMark c (w.onSlot fun s => { s with state := .held .command })) else no
  | .resume t =>
    if s.isTag t && s.state.holdReason.isSome && c.view.headIn then
      (none, fareMark c (w.onSlot fun s => { s with state := .running }))
    else no
  | .cancel t =>
    if s.isTag t && s.open? && s.distance == 0 && s.waiting == 0 && s.extras.isEmpty then
      (none, enterClosing c (w.onSlot fun s => { s with cancelled := true }))
    else no
  | .unpaid t => if s.isTag t && s.isPaying && w.ret.card.txn == .idle then (none, takeUnpaid c w) else no
  | .extra t code =>
    if s.isTag t && extraTaken c code w then
      (none, fareMark c (w.onSlot fun s => { s with extras := s.extras ++ [(code, (c.cfg.extra code).amount)] }))
    else no
  | .cash t amount =>
    if s.isTag t && s.isPaying && w.ret.card.txn == .idle && decide (1 ≤ amount ∧ amount ≤ 999999) then
      (none, paid c (w.onSlot fun s => { s with cash := s.cash + min amount s.remaining }))
    else no

/-- The addressee may decide the frame (05 R88, R85): from the HEAD in service, and in service itself but for a START. -/
def commandHeard (c : Core) (cmd : HireCmd) (src : Station) : Bool := c.view.isHead src && (c.inService || cmd.isStart)

/-- The card engine reports an approval, which is always for a PAYING slot (05 R94, 09 R147). -/
def cardApproved (c : Core) (amount : Nat) (approval : Option (List Byte)) (offline : Bool) (w : Work) : Work :=
  if w.ret.slot.isPaying then
    paid c (w.onSlot fun s =>
      { s with card := s.card + min amount s.remaining
               approval := if offline then s.approval else approval
               offline := s.offline || offline })
  else w

/-! ## The seat-sensor watch (05 R105) -/

/-- One sample of a sensor: the watch after it, and whether the alert is raised. -/
def Watch.sample (x : Watch) (occupied seatFree moving : Bool) : Watch × Bool :=
  if !occupied then (⟨0, false⟩, false)
  else if !seatFree then (⟨0, x.raised⟩, false)
  else
    let n := if moving then min 30 (x.count + 1) else x.count
    if n = 30 ∧ x.raised = false then (⟨n, true⟩, true) else (⟨n, x.raised⟩, false)

/-- The last DISTANCE lies less than 5 s in the past (05 R105). -/
def Work.moving (w : Work) : Bool :=
  match w.meter.lastDistance with
  | some t => decide (w.now - t < sec 5)
  | none => false

/-- One sensor at a one-second expiry (05 R105); the alert carries the seat as 1 to 6 (07 R116, log 40). -/
def watchSensor (c : Core) (n : Nat) (occupied : Bool) (w : Work) : Work :=
  match sensorSeat c.cfg.seatMask n with
  | none => w
  | some i =>
    let x := if n = 0 then w.hire.watch1 else w.hire.watch2
    let r := x.sample occupied (c.view.free (.seat i)) w.moving
    let w := if n = 0 then { w with hire := { w.hire with watch1 := r.1 } } else { w with hire := { w.hire with watch2 := r.1 } }
    if r.2 then raise c { kind := .unregisteredOccupant, origin := c.me, value := some (i.val + 1) } w else w

def watchTick (c : Core) (occ1 occ2 : Bool) (w : Work) : Work :=
  if c.isBay && c.inService then watchSensor c 1 occ2 (watchSensor c 0 occ1 w) else w

end Sys2Proof.Machine
end

