-- ==== Sys2Proof/Machine/Card.lean ====
section
/-! DEFINITION. The card engine (09), and the commands of the card link and of its timers. -/

namespace Sys2Proof

def Frame.isForward : Frame → Bool
  | .forward _ _ => true
  | _ => false

end Sys2Proof

namespace Sys2Proof.Machine

def Work.onCard (w : Work) (f : Card → Card) : Work := { w with card := f w.card }

def Work.onCardRet (w : Work) (f : CardRet → CardRet) : Work := { w with ret := { w.ret with card := f w.ret.card } }

/-- A message to the reader (09 section 9.2, log 18). -/
def tellReader (m : ReaderMsg) (w : Work) : Work := w.onCard fun k => { k with reader := k.reader ++ [m] }

/-- The transaction and one of its alerts. -/
def cardAlert (c : Core) (k : AlertKind) (t : Option Tag) (reason : Option CardReason) (value : Option Nat) (w : Work) : Work :=
  raise c { kind := k, origin := c.me, tag := t, reason := reason.map AlertReason.card, value := value } w

/-! ## Forwarding (09 R159) -/

def FwdStep.busy (f : FwdStep) : Bool := f == .taking || f == .sending || f == .giving

/-- With its conditions all met, forwarding begins with TAKE(LANE) (09 R159). -/
def forwardCheck (c : Core) (w : Work) : Work :=
  let p := c.view
  if c.inService && p.inService .gateway && p.free .lane && p.free .close && w.ret.card.txn == .idle &&
      w.card.fwd == .none && !w.ret.card.forward.isEmpty then w.onCard fun k => { k with fwd := .taking }
  else w

/-- The transaction takes a state: the bay mask follows (07 R123), and IDLE lets forwarding begin (09 R159). -/
def setTxn (c : Core) (st : TxnState) (w : Work) : Work :=
  let w := maskUpdate c (w.onCardRet fun k => { k with txn := st })
  if st = .idle then forwardCheck c w else w

/-- The transaction becomes IDLE with its record cleared. -/
def clearTxn (c : Core) (w : Work) : Work := setTxn c .idle (w.onCardRet fun k => { k with record := TxnRec.cleared })

/-- An entry joins the tail of the forward list (09 R158). An OFFLINE and a VOID entry of one sequence can meet there (log 54). -/
def addForward (c : Core) (e : FwdEntry) (w : Work) : Work :=
  statusTold c (w.onCardRet fun k => { k with forward := k.forward ++ [e] })

/-- The entry leaves the list (09 R158); another of its sequence stays (log 54). -/
def dropForward (c : Core) (e : FwdEntry) (w : Work) : Work :=
  statusTold c (w.onCardRet fun k => { k with forward := k.forward.filter fun x => x != e })

/-- A record is placed in the record hold (09 R161), in one that holds 8 too (log 55). -/
def holdCard (c : Core) (b : RecBody) (w : Work) : Work :=
  w.onCardRet fun k => { k with hold := k.hold ++ [w.record c b] }

def CardRet.lateCount (k : CardRet) : Nat := (k.hold.filter fun r => r.body.isLate).length

/-! ## The result (09 R155) -/

/-- No timer of the attempt runs, and nothing of it waits. -/
def stopAttempt (w : Work) : Work :=
  w.onCard fun k => { k with laneAsk := .none, laneRun := none, laneLeft := 0, laneRetry := none, reply := none, authWaiting := none }

/-- RESULT: the hiring controller and the reader are told, the result hold starts (09 R155). -/
def enterResult (c : Core) (r : TxnResult) (text : Byte) (w : Work) : Work :=
  let w := stopAttempt w
  let w := setTxn c .result (w.onCardRet fun k => { k with record := { k.record with result := some r } })
  let w := w.onCard fun k => { k with hold := some (w.now + sec 10) }
  let rec' := w.ret.card.record
  match r with
  | .approved => tellReader (.result .approved text) (cardApproved c rec'.amount rec'.approval false w)
  | .approvedOffline => tellReader (.result .approved text) (cardApproved c rec'.amount none true w)
  | .declined _ => tellReader (.result .declined (if w.ret.slot.attempts = 3 then textRetryLimit else text)) w

/-- The transaction ends: the reader rests, the record is cleared (09 R155). -/
def endResult (c : Core) (w : Work) : Work :=
  clearTxn c (tellReader .idle (w.onCard fun k => { k with hold := none }))

/-! ## The offline check (09 R154) -/

/-- The conditions of an approval on the node's own authority (09 R154). -/
def offlineAllowed (c : Core) (k : CardRet) : Bool :=
  !k.record.onlineRequired && decide (k.record.amount ≤ c.cfg.floorLimit) && decide (k.forward.length < 4) &&
    decide (k.offlineCount < c.cfg.offlineCap)

/-- The offline check and its RESULT (09 R154). The OFFLINE entry is added beside a VOID entry that a late approval of a REFUSED request has left for the same sequence (log 54). At a HEAD the report FARE of the approval comes before the report ALERT (log 48). -/
def offlineCheck (c : Core) (w : Work) : Work :=
  let k := w.ret.card
  let r := k.record
  if offlineAllowed c k then
    let e : FwdEntry := ⟨.offline, r.seq, r.tag, r.amount, r.token, some (r.scheme, r.entry), w.stamp⟩
    let w := addForward c e (w.onCardRet fun k => { k with offlineCount := k.offlineCount + 1 })
    cardAlert c .cardOffline (some r.tag) none (some r.amount) (enterResult c .approvedOffline textOfflineOk w)
  else
    cardAlert c .cardNoLink (some r.tag) none (some r.amount) (enterResult c (.declined .noLink) textNoLink w)

/-! ## Arming (09 R147) -/

/-- ARMED ends without an attempt (09 R147). -/
def disarm (c : Core) (w : Work) : Work :=
  clearTxn c (tellReader .idle (w.onCard fun k => { k with arm := none }))

/-- The card may be armed for this tag. -/
def mayArm (c : Core) (t : Tag) (w : Work) : Bool :=
  c.inService && w.ret.card.txn == .idle && w.ret.slot.isPaying && w.ret.slot.tag == t &&
    decide (0 < w.ret.slot.remaining) && decide (w.ret.slot.attempts < 3)

/-- The card is armed for the remaining amount. -/
def armCard (c : Core) (t : Tag) (w : Work) : Work :=
  let a := w.ret.slot.remaining
  let w := setTxn c .armed (w.onCardRet fun k => { k with record := { TxnRec.cleared with tag := t, amount := a } })
  tellReader (.arm a) (w.onCard fun k => { k with arm := some (w.now + sec 60) })

/-- ARMED for this tag. -/
def armedFor (t : Tag) (w : Work) : Bool := w.ret.card.txn == .armed && w.ret.card.record.tag == t

/-- The PAY key with the slot PAYING (09 R147). -/
def armKey (c : Core) (w : Work) : Work :=
  let t := w.ret.slot.tag
  if armedFor t w then disarm c w else if mayArm c t w then armCard c t w else w

/-- The console's CARD request (09 R147): its result and its effect. -/
def armConsole (c : Core) (t : Tag) (w : Work) : Option Reason × Work :=
  if !w.ret.slot.isTag t then (some .noSuchHiring, w)
  else if armedFor t w then (none, disarm c w)
  else if mayArm c t w then (none, armCard c t w)
  else (some .wrongState, w)

/-! ## Reading a card (09 R148) -/

/-- The lowest-numbered GATEWAY in service (09 R148). -/
def gatewayOf (c : Core) : Option Station := c.view.lowest .gateway

/-- LANE_WAIT is entered with a whole lane limit (09 R149). -/
def enterLaneWait (c : Core) (g : Station) (w : Work) : Work :=
  let w := w.onCard fun k => { k with laneAsk := .ask, laneRun := some (w.now + sec 10) }
  setTxn c .laneWait (w.onCardRet fun k => { k with record := { k.record with gateway := some g } })

/-- CARD_PRESENTED in ARMED (09 R148). -/
def readCard (c : Core) (d : CardRead) (w : Work) : Work :=
  let w := (w.onSlot fun s => { s with attempts := s.attempts + 1 }).onCard fun k => { k with arm := none }
  let w := w.onCardRet fun k =>
    { k with
      reqSeq := k.reqSeq + 1
      record := { k.record with token := d.token, scheme := d.scheme, entry := d.entry.getD .tap,
                                onlineRequired := d.onlineRequired, seq := k.reqSeq + 1 } }
  if d.entry.isNone || decide (d.scheme < 1 ∨ 15 < d.scheme) then enterResult c (.declined .badCard) textReadError w
  else match gatewayOf c with
    | some g => enterLaneWait c g w
    | none => offlineCheck c w

/-! ## The lane and the authorisation (09 R149 to R153) -/

/-- The frame waiting for the CARD slot takes it. -/
def authPoll (c : Core) (w : Work) : Work :=
  match w.card.authWaiting with
  | some f =>
    if w.sel.card.isNone && c.allows none then
      place c .card f (.attempt w.ret.card.record.seq) (w.onCard fun k => { k with authWaiting := none })
    else w
  | none => w

/-- LANE is won: AUTH_WAIT, the request remembered and offered (09 R151). -/
def enterAuthWait (c : Core) (w : Work) : Work :=
  let r := w.ret.card.record
  let q : AuthReq := ⟨r.seq, r.tag, r.amount, r.token, r.scheme, r.entry⟩
  let left := (w.card.laneRun.getD w.now) - w.now
  let w := setTxn c .authWait (w.onCardRet fun k =>
    { k with memory := (if k.memory.length < 4 then k.memory else k.memory.drop 1) ++ [⟨r.seq, r.tag, r.amount, r.token⟩] })
  match r.gateway with
  | none => w
  | some g =>
    authPoll c (w.onCard fun k =>
      { k with laneAsk := .none, laneRun := none, laneLeft := left, authWaiting := some (.authRequest g q) })

/-- The wait for a reply ends without a verdict: a waiting AUTH_REQUEST is withdrawn (09 R153). -/
def leaveAuth (c : Core) (w : Work) : Work := offlineCheck c (withdrawSlot .card w)

/-- The outcome of an AUTH_REQUEST of this attempt (09 R151). -/
def authOutcome (c : Core) (seq : BitVec 16) (r : FrameResult) (w : Work) : Work :=
  if w.ret.card.txn == .authWait && w.ret.card.record.seq == seq then
    match r with
    | .taken => w.onCard fun k => { k with reply := some (w.now + sec 20) }
    | .refused =>
      if w.card.laneLeft = 0 then offlineCheck c w
      else
        setTxn c .laneWait (w.onCard fun k =>
          { k with laneAsk := .untilRetry, laneRun := some (w.now + k.laneLeft), laneRetry := some (w.now + sec 1) })
    | .noAnswer => offlineCheck c w
    | .abandoned .lineFail => offlineCheck c w
    | .abandoned .lineBusy => offlineCheck c w
    | _ => w
  else w

/-- The result of a TAKE of LANE for an attempt (09 R149); `none` is ABANDONED. -/
def laneResult (c : Core) (seq : BitVec 16) (r : Option PicResult) (w : Work) : Work :=
  if w.ret.card.txn == .laneWait && w.ret.card.record.seq == seq && w.card.laneAsk == .none then
    match r with
    | some .won => enterAuthWait c w
    | some .already => enterAuthWait c w
    | some _ => w.onCard fun k => { k with laneAsk := .untilFree }
    | none => w.onCard fun k => { k with laneAsk := .ask }
  else w

/-- FORWARD of the entry now oldest to the lowest-numbered GATEWAY in service (09 R159 step 2). Where the entry that the TAKE was offered for has left the list by then, LANE still carries that entry's sequence; with the list empty LANE is given back (log 63). -/
def startSending (c : Core) (w : Work) : Work :=
  match w.ret.card.forward, gatewayOf c with
  | e :: _, some g =>
    { w.onCard (fun k => { k with fwd := .sending }) with sel := { w.sel with waitForward := some (.forward g e) } }
  | _ :: _, none => w.onCard fun k => { k with fwd := .giving, retry := true }
  | [], _ => w.onCard fun k => { k with fwd := .giving, retry := false }

/-- The result of forwarding's TAKE (09 R159 step 1). -/
def forwardTake (c : Core) (r : Option PicResult) (w : Work) : Work :=
  if w.card.fwd == .taking then
    match r with
    | some .won => startSending c w
    | some .already => startSending c w
    | _ => w.onCard fun k => { k with fwd := .none }
  else w

/-- The result of forwarding's GIVE (09 R159 step 3). -/
def forwardGiven (w : Work) : Work :=
  if w.card.fwd == .giving then
    w.onCard fun k =>
      { k with fwd := if k.retry then .waiting else .none, retry := false,
               fwdRetry := if k.retry then some (w.now + sec 30) else none }
  else w

/-- Forwarding is given up for now: a FORWARD not begun is withdrawn (09 R159). -/
def forwardStop (w : Work) : Work :=
  let w := withdrawBulk Frame.isForward { w with sel := { w.sel with waitForward := none } }
  w.onCard fun k => { k with fwd := .giving, retry := true }

/-- The card engine's own picture frame has been applied with a result (09 R149, R159, R164). -/
def cardOwn (c : Core) (f : PicFrame) (u : Purpose) (r : PicResult) (w : Work) : Work :=
  match f, u with
  | .take _ _, .attempt seq => laneResult c seq (some r) w
  | .take _ _, .forward => forwardTake c (some r) w
  | .give _, .forward => forwardGiven w
  | .give _, .console => answerIf .forceLane none (w.onCard fun k => { k with force := false })
  | .seize _ _, _ =>
    match r with
    | .won => w
    | _ => answerIf .forceLane (some .wrongState) (w.onCard fun k => { k with force := false })
  | _, _ => w

/-- The card engine's own picture frame has been ABANDONED (09 R149, R159, R164). -/
def cardAbandoned (c : Core) (f : PicFrame) (u : Purpose) (a : Abandon) (w : Work) : Work :=
  match f, u with
  | .take _ _, .attempt seq => laneResult c seq none w
  | .take _ _, .forward => forwardCheck c (forwardTake c none w)
  | .give _, .console => answerIf .forceLane (some a.reason) (w.onCard fun k => { k with force := false })
  | .seize _ _, _ => answerIf .forceLane (some a.reason) (w.onCard fun k => { k with force := false })
  | _, _ => w

/-- Forwarding is to stop at a change notice (09 R159): in TAKING or SENDING no GATEWAY is in service, or LANE is lost. In TAKING that is a LANE which the picture before the frame showed held by this node and the picture after does not; a HEAD's own GIVE of a LANE it has seized for FORCE_CLAIM is one too (log 63). -/
def forwardLost (before : Picture) (c : Core) (w : Work) : Bool :=
  let p := c.view
  match w.card.fwd with
  | .taking => !p.inService .gateway || (before.holds .lane c.me && !p.holds .lane c.me)
  | .sending => !p.inService .gateway || !p.holds .lane c.me
  | _ => false

/-- What the engine reads in the picture at a change notice (09 R149, R153, R159); `before` is the picture before the frame. -/
def cardNotice (before : Picture) (c : Core) (w : Work) : Work :=
  let p := c.view
  let w :=
    match w.ret.card.txn with
    | .laneWait =>
      match gatewayOf c with
      | none => offlineCheck c w
      | some g =>
        let w := w.onCardRet fun k => { k with record := { k.record with gateway := some g } }
        if w.card.laneAsk == .untilFree && p.free .lane then w.onCard fun k => { k with laneAsk := .ask } else w
    | .authWait =>
      let gone := match w.ret.card.record.gateway with
        | some g =>
          match p.entry g with
          | some e => e.state != .inService
          | none => true
        | none => true
      if gone || !p.holds .lane c.me then leaveAuth c w else w
    | _ => w
  forwardCheck c (if forwardLost before c w then forwardStop w else w)

/-- What the card engine offers when its producer has no frame: TAKE of an attempt, forwarding's TAKE and GIVE, and the GIVE of a LANE it does not need (09 R149, R150, R159, R164). A LANE that a TAKE of an earlier attempt won is given back before the attempt in LANE_WAIT asks (R150, R163, log 56). -/
def cardPoll (c : Core) (w : Work) : Work :=
  if !c.serving || w.sel.has .card then w
  else
    let give := Frame.pic (.give (some .lane))
    let k := w.ret.card
    if w.card.force && c.view.holds .lane c.me then offerPic c .card .console give w
    else if k.txn == .laneWait && w.card.laneAsk == .ask && !w.card.fwd.busy && !c.view.holds .lane c.me then
      offerPic c .card (.attempt k.record.seq) (.pic (.take (some .lane) k.record.seq))
        (w.onCard fun k => { k with laneAsk := .none })
    else match w.card.fwd, k.forward with
      | .taking, e :: _ => offerPic c .card .forward (.pic (.take (some .lane) e.seq)) w
      | .taking, [] => w.onCard fun k => { k with fwd := .none }
      | .giving, _ => offerPic c .card .forward give w
      | _, _ =>
        if c.view.holds .lane c.me && k.txn != .authWait && w.card.fwd != .sending then offerPic c .card .plain give w
        else w

/-- What the outcome of a FORWARD does to its entry (09 R159, R160, R163): TAKEN removes it as forwarded; another outcome of one that was begun at a forced close turns it into a record, unless the node left service before the frame completed (log 29). -/
def forwardSettled (c : Core) (e : FwdEntry) (r : FrameResult) (w : Work) : Work :=
  let held := w.card.committed = some e ∧ w.ret.card.forward.contains e = true
  let v := w.onCard fun k => { k with committed := none }
  if r = .taken then tallyAdd { TallyVals.zero none with forwarded := 1 } (dropForward c e v)
  else if held ∧ r ≠ .abandoned .notInService then dropForward c e (holdCard c (.unsentOffline e) v)
  else v

/-- The outcome of a FORWARD (09 R159, R160, R163). -/
def forwardOutcome (c : Core) (e : FwdEntry) (r : FrameResult) (w : Work) : Work :=
  let w := forwardSettled c e r w
  if w.card.fwd == .sending then w.onCard fun k => { k with fwd := .giving, retry := decide (r ≠ .taken) } else w

/-- The entry whose FORWARD stands in the BULK slot, with whether it is begun. -/
def Selector.forwardSlot (s : Selector) : Option (FwdEntry × Bool) :=
  match s.bulk with
  | some o =>
    match o.frame with
    | .forward _ x => some (x, o.begun)
    | _ => none
  | none => none

/-- A forced close turns the forward list into records; an entry whose FORWARD is begun stays until its outcome (09 R160, log 29). -/
def forcedClose (c : Core) (w : Work) : Work :=
  let begun (e : FwdEntry) : Bool := w.sel.forwardSlot == some (e, true)
  let out := w.ret.card.forward.filter fun e => !begun e
  let w1 := out.foldl (fun v e => holdCard c (.unsentOffline e) v) w
  let w2 := w1.onCardRet fun k => { k with forward := k.forward.filter begun }
  let w2 := w2.onCard fun k => { k with committed := w2.ret.card.forward.head? }
  let w3 := if w2.card.fwd == .sending && w2.ret.card.forward.isEmpty then forwardStop w2 else w2
  if out.isEmpty then w3 else statusTold c w3

/-! ## Replies (09 R152, R157) -/

/-- The tag, amount and token of a late approval (09 R157). -/
def lateFields (k : CardRet) (r : AuthRep) : Tag × Nat × List Byte :=
  match k.memory.find? fun m => m.seq == r.seq with
  | some m => (m.tag, m.amount, m.token)
  | none => (r.tag, r.amount, List.replicate 16 0)

/-- The FORWARD of an entry that has left the list is withdrawn where it is not begun (09 R157, log 42). -/
def unforward (e : FwdEntry) (w : Work) : Work :=
  let waits := match w.sel.waitForward with
    | some (.forward _ x) => x == e
    | _ => false
  if w.card.fwd == .sending && (waits || w.sel.forwardSlot == some (e, false)) then forwardStop w else w

/-- A late approval (09 R157): whether it is TAKEN, and its effect, by the first case that applies. -/
def lateApproval (c : Core) (r : AuthRep) (w : Work) : Bool × Work :=
  let k := w.ret.card
  match k.forward.find? fun e => e.seq == r.seq && e.kind == .offline with
  | some e => (true, dropForward c e (unforward e w))
  | none =>
    let f := lateFields k r
    if k.forward.any fun e => e.seq == r.seq then (true, w)
    else if k.forward.length < 4 then (true, addForward c ⟨.void, r.seq, f.1, f.2.1, f.2.2, none, w.stamp⟩ w)
    else
      let full := cardAlert c .forwardFull (some f.1) none (some f.2.1)
      if k.lateCount < 3 then (true, full (holdCard c (.lateApproval r.seq f.1 f.2.1 f.2.2) w))
      else (false, full w)

/-- AUTH_REPLY at its addressee (09 R152): whether it is TAKEN, and its effect. At a HEAD the report FARE of the approval comes before the report ALERT (log 48). -/
def authReply (c : Core) (src : Station) (r : AuthRep) (w : Work) : Bool × Work :=
  if !c.view.hasRole src .gateway then (false, w)
  else if w.ret.card.txn == .authWait && w.ret.card.record.seq == r.seq then
    let t := w.ret.card.record
    if r.approved then
      let w := w.onCardRet fun k => { k with record := { k.record with approval := r.code } }
      (true, cardAlert c .cardApproved (some t.tag) none (some t.amount) (enterResult c .approved r.text w))
    else
      (true, cardAlert c .cardDeclined (some t.tag) (some .gateway) none (enterResult c (.declined .gateway) r.text w))
  else if r.approved then lateApproval c r w
  else (true, w)

/-! ## Restarts and loss of service (09 R162, R163) -/

/-- The sequence of an attempt that may have been approved is covered (09 R162). -/
def coverAttempt (c : Core) (w : Work) : Work :=
  let k := w.ret.card
  let r := k.record
  if k.forward.any fun e => e.seq == r.seq then w
  else if k.forward.length < 4 then addForward c ⟨.void, r.seq, r.tag, r.amount, r.token, none, w.stamp⟩ w
  else if k.lateCount < 4 then holdCard c (.lateApproval r.seq r.tag r.amount r.token) w
  else cardAlert c .forwardFull (some r.tag) none (some r.amount) w

/-- INDETERMINATE, resolved at once (09 R162). -/
def indeterminate (c : Core) (w : Work) : Work :=
  let t := w.ret.card.record.tag
  let w := if w.ret.card.txn = .authWait then coverAttempt c w else w
  clearTxn c (cardAlert c .cardIndeterminate (some t) none none (stopAttempt w))

/-- A warm start's transaction comes to IDLE (09 R162). -/
def cardWarm (c : Core) (w : Work) : Work :=
  match w.ret.card.txn with
  | .idle => w
  | .armed => clearTxn c w
  | .result => clearTxn c w
  | _ => indeterminate c w

/-- The service-lost notice (09 R163). -/
def cardLost (c : Core) (w : Work) : Work :=
  let w :=
    match w.ret.card.txn with
    | .armed => disarm c w
    | .idle => w
    | .result => w
    | _ => indeterminate c w
  (stopAttempt w).onCard fun k =>
    { k with fwd := .none, retry := false, fwdRetry := none, force := false,
             committed := if w.sel.forwardSlot.isSome then k.committed else none }

/-! ## Reader faults (09 R156) -/

/-- The attempt is declined with reason READER, with no RESULT shown (09 R156): the mask clears before CARD_DECLINED is raised (07 R125, log 48). -/
def readerDecline (c : Core) (w : Work) : Work :=
  let t := w.ret.card.record.tag
  let w := (withdrawSlot .card (stopAttempt w)).onCard fun k => { k with arm := none }
  cardAlert c .cardDeclined (some t) (some .reader) none (clearTxn c (tellReader .idle w))

/-- The halt left the retained transaction to a later start: CONFIG did not accept a configuration (03 R63, log 31). -/
def Core.faulty (c : Core) : Bool := c.halt == some .configFault

/-- READER_FAULT (09 R156). -/
def readerFault (c : Core) (w : Work) : Work :=
  let s := w.ret.slot
  let w := cardAlert c .readerFault (if s.isPaying then some s.tag else none) none none w
  if c.faulty then w
  else match w.ret.card.txn with
  | .idle => w
  | .armed => readerDecline c (w.onSlot fun s => { s with attempts := s.attempts + 1 })
  | .result => endResult c w
  | _ => readerDecline c w

/-! ## The card link's messages and the engine's timers -/

def cardPresented (c : Core) (d : CardRead) (w : Work) : Work :=
  if c.node.started && c.node != .halted && w.ret.card.txn == .armed then readCard c d w else w

def cardRemoved (c : Core) (w : Work) : Work :=
  if c.node.started && !c.faulty && w.ret.card.txn == .result then endResult c w else w

def armLimit (c : Core) (w : Work) : Work :=
  match w.card.arm with
  | some t => disarm c (w.reach t)
  | none => w

def laneLimit (c : Core) (w : Work) : Work :=
  match w.card.laneRun with
  | some t => offlineCheck c (w.reach t)
  | none => w

def laneRetry (w : Work) : Work :=
  match w.card.laneRetry with
  | some t =>
    (w.reach t).onCard fun k => { k with laneRetry := none, laneAsk := if k.laneAsk == .untilRetry then .ask else k.laneAsk }
  | none => w

def replyLimit (c : Core) (w : Work) : Work :=
  match w.card.reply with
  | some t => leaveAuth c (w.reach t)
  | none => w

def resultHold (c : Core) (w : Work) : Work :=
  match w.card.hold with
  | some t =>
    endResult c (w.reach t)
  | none => w

def forwardRetry (c : Core) (w : Work) : Work :=
  match w.card.fwdRetry with
  | some t => forwardCheck c ((w.reach t).onCard fun k => { k with fwd := .none, fwdRetry := none })
  | none => w

end Sys2Proof.Machine
end

