-- ==== Sys2Proof/Machine/Sign.lean ====
section
/-! DEFINITION. The sign driver: derivation, lamps, the lamp test, lamp faults (06), and its commands. -/

namespace Sys2Proof.Machine

/-- A lamp driven on: without current its dark time grows from now; with current it is 0 and the fault clears (06 R112). -/
def Lamp.drive (now : Time) (l : Lamp) : Lamp :=
  if l.driven then l
  else if l.sense then { l with driven := true, dark := 0, since := none, fault := false, reported := false }
  else { l with driven := true, since := some now }

/-- What the dark time stands at now, at most 1 s (06 R106). -/
def Lamp.darkAt (now : Time) (l : Lamp) : Time :=
  match l.since with
  | some t => min (sec 1) (l.dark + (now - t))
  | none => l.dark

/-- A lamp driven off: its dark time returns to 0, but that of the assist lamp is held (`held`), and flags the lamp if it has just reached 1 s (06 R112). -/
def Lamp.release (now : Time) (held : Bool) (l : Lamp) : Lamp :=
  let d := if held then l.darkAt now else 0
  if l.driven then { l with driven := false, dark := d, since := none, fault := l.fault || (l.since.isSome && d == sec 1) }
  else { l with dark := if held then l.dark else 0 }

/-- The dark time returns to 0 while the lamp stays as it is: driven on without current, it grows again from now (06 R112). -/
def Lamp.darkAgain (now : Time) (l : Lamp) : Lamp := { l with dark := 0, since := if l.driven && !l.sense then some now else none }

/-- The assist lamp's on phase: the first 500 ms after a one-second expiry (06 R110). -/
def assistPhase (w : Work) : Bool := decide (w.now < w.meter.secondAt + ms 500)

/-- Every lamp's output from the state, the overlay and the test (06 R109, R110, R111). -/
def Sign.outputs (g : Sign) (now : Time) (phase : Bool) : Sign :=
  let test := g.test.isSome
  let out (l : LampId) (on : Bool) (g : Sign) : Sign :=
    g.setLamp l (if on then (g.lamp l).drive now else (g.lamp l).release now (l == .assist))
  let g := [LampId.forHire, .hired, .share, .digit, .offDuty].foldl (fun g l => out l (test || lampOn g.state l) g) g
  out .assist (test || (g.overlay && phase)) g

/-- The lamps' fault flags in lamp order. -/
def Sign.faults (g : Sign) : List Bool := allLamps.map fun l => (g.lamp l).fault

/-- The outputs follow, on a node with the sign strap (06 R106). -/
def signOutputs (c : Core) (w : Work) : Work :=
  if c.straps.sign then { w with sign := w.sign.outputs w.now (assistPhase w) } else w

/-- The console is told the sign when the state, the digit, the overlay or a fault flag changed (06 R114). -/
def signTold (c : Core) (old : Sign) (w : Work) : Work :=
  let g := w.sign
  if g.state != old.state || g.digit != old.digit || g.overlay != old.overlay ||
      (c.straps.sign && g.faults != old.faults) then report c (.sign (signView c g)) w
  else w

/-- A fault flag set and not reported raises the alert in service (06 R113); the lamp is carried as its place in the lamp order, from 0 (log 40). -/
def lampReport (c : Core) (l : LampId) (w : Work) : Work :=
  let x := w.sign.lamp l
  if c.serving && c.straps.sign && x.fault && !x.reported then
    raise c { kind := .signLampFault, origin := c.me, value := some l.ctorIdx }
      { w with sign := w.sign.setLamp l { x with reported := true } }
  else w

/-- The outputs follow a change: the console is told, and an assist lamp whose dark time has reached 1 s at the end of an on phase is flagged and reported, the report SIGN before the alert (06 R112 to R114, log 48). -/
def signFollow (c : Core) (old : Sign) (w : Work) : Work :=
  let w := signTold c old (signOutputs c w)
  if w.sign.assist.fault && !old.assist.fault then lampReport c .assist w else w

/-- The sign is derived afresh (06 R107): at a node with the sign strap, and at every HEAD. -/
def signDerive (c : Core) (w : Work) : Work :=
  if c.straps.sign || c.isHead then
    let d := signOf c
    let old := w.sign
    let g : Sign := { old with state := d.1, digit := d.2, overlay := overlayOf c }
    let g := if old.overlay && !g.overlay then g.setLamp .assist ((g.lamp .assist).darkAgain w.now) else g
    signFollow c old { w with sign := g }
  else w

/-- On entering service: one alert per flagged lamp, in lamp order (06 R113). -/
def lampReports (c : Core) (w : Work) : Work := allLamps.foldl (fun w l => lampReport c l w) w

/-! ## The commands -/

/-- LAMP_TEST_END (06 R111). -/
def lampTestEnd (c : Core) (w : Work) : Work :=
  match w.sign.test with
  | none => w
  | some t =>
    let w := w.reach t
    signFollow c w.sign { w with sign := { w.sign with test := none } }

/-- ASSIST_FLASH_PHASE (06 R110): 500 ms after a one-second expiry. -/
def assistFlash (c : Core) (w : Work) : Work :=
  if c.node.started then
    let w := w.reach (w.meter.secondAt + ms 500)
    signFollow c w.sign w
  else w

/-- LAMP_DARK_TIME_LIMIT (06 R112, R113): the report SIGN comes before the alert (log 48). -/
def lampDark (c : Core) (l : LampId) (w : Work) : Work :=
  let x := w.sign.lamp l
  match x.since with
  | none => w
  | some t =>
    let w := w.reach (t + (sec 1 - x.dark))
    let old := w.sign
    lampReport c l (signTold c old { w with sign := w.sign.setLamp l { x with dark := sec 1, since := none, fault := true } })

/-- LAMP_CURRENT_SENSE (06 R112): while the lamp is driven on, current clears the dark time, the fault flag and the reported mark. -/
def lampSense (c : Core) (l : LampId) (current : Bool) (w : Work) : Work :=
  if c.straps.sign then
    let x := w.sign.lamp l
    let x' : Lamp :=
      if !x.driven then { x with sense := current }
      else if current then { x with sense := true, dark := 0, since := none, fault := false, reported := false }
      else { x with sense := false, since := if x.sense then some w.now else x.since }
    let old := w.sign
    signTold c old { w with sign := w.sign.setLamp l x' }
  else w

/-- LAMP_TEST_END. -/
def execLampTestEnd (s : State) : Host.Outcome State Fault Refusal :=
  onWork lampTestEnd s

/-- ASSIST_FLASH_PHASE. -/
def execAssistFlashPhase (s : State) : Host.Outcome State Fault Refusal :=
  onWork assistFlash s

/-- LAMP_DARK_TIME_LIMIT. -/
def execLampDarkTimeLimit (l : LampId) (s : State) : Host.Outcome State Fault Refusal :=
  onWork (fun c => lampDark c l) s

/-- LAMP_CURRENT_SENSE. -/
def execLampCurrentSense (l : LampId) (current : Bool) (s : State) : Host.Outcome State Fault Refusal :=
  onWork (fun c => lampSense c l current) s

end Sys2Proof.Machine
end

