-- ==== Sys2Proof/Machine/Meter.lean ====
section
/-! DEFINITION. The meter unit: clock and band (04 section 4.2), distance (04 section 4.3, 02 R40), waiting, drive quiet, and the one-second expiry. -/

namespace Sys2Proof

def Frame.isTime : Frame → Bool
  | .time _ => true
  | _ => false

/-- The rate of a distance unit (04 R73); an occupancy of 0 takes the rate for 1. -/
def Band.rate (b : Band) (mode : Mode) (occupancy : Nat) : Nat :=
  match mode, occupancy with
  | .solo, _ => b.solo
  | .shared, 0 => b.shared1
  | .shared, 1 => b.shared1
  | .shared, 2 => b.shared2
  | .shared, 3 => b.shared3
  | .shared, _ => b.shared4

/-- The hiring roster holds an entry RUNNING, or ORPHANED with prior state RUNNING (04 R72). -/
def Picture.hired (p : Picture) : Bool :=
  p.hirings.any fun h => h.state == .active .running || h.state == .orphaned .running

end Sys2Proof

namespace Sys2Proof.Machine

def Work.onMeter (w : Work) (f : Meter → Meter) : Work := { w with meter := f w.meter }

/-! ## The band (04 R70) -/

/-- The current band is evaluated afresh; a changed band goes to a slot that is not FREE. A HALTED node's slot stands (03 R63). -/
def reband (c : Core) (w : Work) : Work :=
  let b := c.cfg.bandAt w.ret.clock
  if b = w.meter.band then w
  else
    let w := w.onMeter fun m => { m with band := b }
    if w.ret.slot.state.isFree || c.node == .halted then w else fareMark c (w.onSlot fun s => { s with band := b })

/-! ## The METER slot (02 R40, 04 R67, R68) -/

def Work.hasTime (w : Work) : Bool :=
  match w.sel.meter with
  | some o => o.frame.isTime && !o.begun
  | none => false

/-- TIME is called for: placed, rewritten where it waits in the slot, or kept waiting in the meter unit. `setting`: it carries a console setting. -/
def offerTime (c : Core) (setting : Bool) (w : Work) : Work :=
  match w.ret.clock with
  | none => w
  | some t =>
    if !(c.isHead && c.inService) then w
    else match w.sel.meter with
      | none => place c .meter (.time t) (if setting then .console else .plain) w
      | some o =>
        if o.frame.isTime && !o.begun then
          let o' := { o with frame := .time t, purpose := if setting then .console else o.purpose }
          { w with sel := { w.sel with meter := some o' } }
        else w.onMeter fun m => { m with timeWaiting := some (setting || m.timeWaiting.getD false) }

/-- The free METER slot takes a waiting TIME, else a DISTANCE of the accumulated units (02 R40). -/
def meterFeed (c : Core) (w : Work) : Work :=
  if w.sel.meter.isSome || !c.inService || !c.isHead then w
  else match w.meter.timeWaiting, w.ret.clock with
    | some b, some t =>
      place c .meter (.time t) (if b then .console else .plain) (w.onMeter fun m => { m with timeWaiting := none })
    | _, _ =>
      let n := min 255 w.meter.accumulator
      if n = 0 then w
      else place c .meter (.distance n w.ret.running) .plain (w.onMeter fun m => { m with accumulator := m.accumulator - n })

/-- A completed unit is placed (02 R40). -/
def placeUnit (c : Core) (w : Work) : Work :=
  match w.sel.meter with
  | some o =>
    match o.frame with
    | .distance n _ =>
      if !o.begun && decide (n < 255) then
        { w with sel := { w.sel with meter := some { o with frame := .distance (n + 1) w.ret.running } } }
      else w.onMeter fun m => { m with accumulator := m.accumulator + 1 }
    | _ => w.onMeter fun m => { m with accumulator := m.accumulator + 1 }
  | none => meterFeed c (w.onMeter fun m => { m with accumulator := m.accumulator + 1 })

/-- An odometer pulse that meets R196's two times, at a HEAD with the odometer strap (04 R71); with no configuration taken the pulses of a unit are not known (log 32). -/
def odometer (c : Core) (low held : Nat) (w : Work) : Work :=
  if c.node.started && c.halt != some .configFault && c.isHead && c.straps.odometer && decide (20 ≤ low ∧ 20 ≤ held) then
    if w.meter.pulses + 1 < c.cfg.pulsesPerUnit then w.onMeter fun m => { m with pulses := m.pulses + 1 }
    else
      let w := w.onMeter fun m => { m with pulses := 0 }
      let w := { w with ret := { w.ret with running := w.ret.running + 1 } }
      if c.inService then placeUnit c w else w
  else w

/-! ## Drive quiet (04 R75) -/

def Meter.total (m : Meter) : Nat := m.window.sum + m.current

/-- Units join the current second; the total reaching Q turns drive quiet on. -/
def Meter.addUnits (m : Meter) (q n : Nat) : Meter :=
  let m := { m with current := m.current + n }
  if q ≤ m.total ∧ m.quiet = false then { m with quiet := true, quietSecs := 0 } else m

/-- The window at a one-second expiry; the count stands at 5 when drive quiet goes off, until it goes on or the total is Q again. -/
def Meter.second (m : Meter) (q : Nat) : Meter :=
  let m := { m with window := m.current :: m.window.take 9, current := 0 }
  if q ≤ m.total then { m with quietSecs := 0 }
  else if m.quiet then
    if m.quietSecs + 1 < 5 then { m with quietSecs := m.quietSecs + 1 } else { m with quiet := false, quietSecs := 5 }
  else m

def quietTick (c : Core) (w : Work) : Work :=
  if c.isHead then
    let was := w.meter.quiet
    let w := w.onMeter fun m => m.second c.cfg.driveQuietQ
    if was && !w.meter.quiet then releaseDeferred c w else w
  else w

/-! ## DISTANCE (04 R72, R73, R80) -/

/-- The pending gap is dealt with (04 R80). -/
def takeGap (c : Core) (n : Nat) (running : BitVec 16) (w : Work) : Work :=
  let s := w.ret.slot
  if s.gapPending then
    let w := w.onSlot fun s => { s with gapPending := false }
    match w.ret.lastRunning with
    | none => w
    | some last =>
      let missed := (running - BitVec.ofNat 16 n - last).toNat
      let w := w.onSlot fun s => { s with gap := min 65535 (s.gap + missed) }
      if 0 < missed then raise c { kind := .gapRecorded, origin := c.me, tag := some s.tag, value := some missed } w else w
  else w

/-- A RUNNING slot is charged n times the rate (04 R73). -/
def chargeDistance (c : Core) (n : Nat) (w : Work) : Work :=
  let s := w.ret.slot
  if s.state == .running then
    let rate := (c.cfg.band w.meter.band).rate s.mode c.view.occupancy
    charge c (n * rate) (w.onSlot fun s => { s with distance := s.distance + n })
  else w

/-- A completed DISTANCE at a node holding a picture (04 R72); a node strapped HEAD feeds its window and its tally, as a LISTENER too (log 51). -/
def takeDistance (c : Core) (src : Station) (n : Nat) (running : BitVec 16) (w : Work) : Work :=
  if c.serving && c.view.hasRole src .head && decide (1 ≤ n ∧ n ≤ 255) then
    let w := w.onMeter fun m => { m with lastDistance := some w.now, seen := true }
    let w := chargeDistance c n (takeGap c n running w)
    let w := { w with ret := { w.ret with lastRunning := some running } }
    if c.isHead then
      let w := w.onMeter fun m => m.addUnits c.cfg.driveQuietQ n
      if c.view.free .shift then w
      else if c.view.hired then tallyAdd { TallyVals.zero none with hired := n } w
      else tallyAdd { TallyVals.zero none with empty := n } w
    else w
  else w

/-! ## TIME (04 R67 to R69) -/

/-- The HEAD's clock is set: the record, the band, the TIME (04 R68, R69). -/
def setClock (c : Core) (t : Nat) (source : TimeSource) (w : Work) : Work :=
  let old := w.ret.clock
  let w := { w with ret := { w.ret with clock := some t } }
  let w := reband c (headEvent c (.timeSet old t source) w)
  offerTime c (source == .console) w

/-- The sender's role as a node without a picture judges it: the role heard, or the first TIME (04 R69). -/
def timeRoleHeard (j : Join) (src : Station) : Option Role := (j.roles.find? fun r => r.1 == src).map fun r => r.2

/-- Whether a TIME is adopted (04 R69). -/
def timeAdopted (c : Core) (src : Station) (w : Work) : Bool :=
  let byRole (r : Role) : Bool := r == .gateway || (r == .head && !c.isHead)
  if c.serving then
    match c.view.entry src with
    | some e => byRole e.role
    | none => false
  else match timeRoleHeard w.join src with
    | some r => byRole r
    | none => !w.join.firstTime

/-- A completed TIME from another station (04 R69, 03 R52). -/
def takeTime (c : Core) (src : Station) (t : Nat) (w : Work) : Work :=
  if !(c.serving || c.node.joining?) then w
  else
    let w' :=
      if decide (t < clockLimit) && timeAdopted c src w then
        if c.isHead && c.inService then setClock c t (.gateway src) w
        else reband c { w with ret := { w.ret with clock := some t } }
      else w
    if c.node.joining? then { w' with join := { w'.join with firstTime := true } } else w'

/-! ## The one-second expiry (04 R67, R70, R74, R75) -/

/-- The clock a second later; after the last second of 2099 a free value (log 7). -/
def advanceClock (w : Work) : Work :=
  match w.ret.clock with
  | none => w
  | some t =>
    if t + 1 < clockLimit then { w with ret := { w.ret with clock := some (t + 1) } }
    else { w with free := w.free + 1, ret := { w.ret with clock := some (Config.clockAfterEnd w.free % clockLimit) } }

/-- The expiry brought the clock's seconds to 0 (04 R67). -/
def minuteBoundary (w : Work) : Bool :=
  match w.ret.clock with
  | some t => t % 60 == 0
  | none => false

/-- The waiting second of a RUNNING slot, and the clearing of the distance-seen mark; a HALTED node counts none (04 R74). -/
def waitingTick (c : Core) (w : Work) : Work :=
  let seen := w.meter.seen
  let w := w.onMeter fun m => { m with seen := false }
  if !seen && w.ret.slot.state == .running && c.node != .halted then
    charge c (c.cfg.band w.meter.band).waiting (w.onSlot fun s => { s with waiting := s.waiting + 1 })
  else w

/-- The clock, its minute boundary, the band and the TIME (04 R67, R70). -/
def clockTick (c : Core) (w : Work) : Work :=
  let w := advanceClock w
  if minuteBoundary w then offerTime c false (reband c w) else w

/-- Shift seconds at the HEAD while it holds a picture (11 R180), as a LISTENER too (log 51). -/
def shiftSecond (c : Core) (w : Work) : Work :=
  if c.isHead && c.serving && !c.view.free .shift then tallyAdd { TallyVals.zero none with seconds := 1 } w else w

/-- ONE_SECOND_TICK: a HALTED node's clock and drive quiet go on, its retained state stands (03 R63). A charge's FARE_LIMITED comes before the release of the deferred list (log 48). -/
def secondTick (c : Core) (occ1 occ2 : Bool) (w : Work) : Work :=
  if !c.node.started then w
  else
    let w := w.reach (w.meter.secondAt + sec 1)
    let w := w.onMeter fun m => { m with secondAt := w.now }
    let old := w.sign
    let w := w |> waitingTick c |> clockTick c |> quietTick c
    if c.node == .halted then w
    else
      w |> shiftSecond c |> watchTick c occ1 occ2 |> fareTick c
        |> signFollow c old

/-- STANDBY_CLOCK_ADVANCE: a second on the standby supply in RESET, at a HEAD (04 R67). -/
def standbyClock (c : Core) (w : Work) : Work :=
  if c.node == .reset && c.isHead && c.standby then advanceClock { w with now := w.now + sec 1 } else w

/-! ## Outcomes and loss of service -/

/-- The outcome of a DISTANCE or TIME that did not complete (02 R40, 04 R68). -/
def meterAbandoned (f : Frame) (u : Purpose) (a : Abandon) (w : Work) : Work :=
  match f with
  | .distance n _ => w.onMeter fun m => { m with accumulator := m.accumulator + n }
  | .time _ => if u = .console then answerIf .setTime (some a.reason) w else w
  | _ => w

/-- The HEAD leaves IN_SERVICE: the accumulator is cleared, a waiting TIME is not offered (04 R71, R68). -/
def meterLost (w : Work) : Work := w.onMeter fun m => { m with accumulator := 0, timeWaiting := none }

end Sys2Proof.Machine
end

