-- ==== Sys2Proof/Machine/Picture.lean ====
section
/-! DEFINITION. How a picture-changing frame is applied (01 R6 to R23), and the laws of a picture (01 R2 to R4). -/

namespace Sys2Proof

/-! ## The roster (01 R9 to R11) -/

/-- Puts an entry in station order, in the place of the one its station had (01 R2). -/
def putEntry (e : RosterEntry) : List RosterEntry → List RosterEntry
  | [] => [e]
  | x :: rest =>
    if e.station < x.station then e :: x :: rest
    else if e.station = x.station then e :: rest
    else x :: putEntry e rest

/-- The entry a HELLO gives its sender (01 R9). -/
def helloEntry (s : Station) (h : HelloPay) (old : Option RosterEntry) : RosterEntry :=
  let flags (e : RosterEntry) : Bool × Bool × Bool × Nat := (e.lockout, e.halfA, e.halfB, e.fwd)
  let f := (old.map flags).getD (false, false, false, 0)
  { station := s, role := h.role.getD .other, sign := h.sign, odometer := h.odometer, mask := h.mask, digest := h.digest,
    state := .joining, lockout := f.1, halfA := f.2.1, halfB := f.2.2.1, fwd := f.2.2.2, announced := h.tag }

/-- A HELLO whose role, mask or tag is out of range has no effect (01 R6). -/
def HelloPay.inRange (h : HelloPay) : Bool :=
  h.role.isSome && SeatSet.valid h.mask && (match h.tag with
    | some t => t.inRange
    | none => true)

/-- The ranges of a STATUS (01 R10). -/
def StatusPay.inRange (st : StatusPay) : Bool :=
  (st.state == some .inService || st.state == some .listener) && decide (st.fwd ≤ 4)

/-- The entry after a STATUS (01 R10). -/
def RosterEntry.withStatus (e : RosterEntry) (st : StatusPay) : RosterEntry :=
  { e with state := st.state.getD e.state, lockout := st.lockout, halfA := st.halfA, halfB := st.halfB, fwd := st.fwd }

/-- A word held by `s` that does not outlast its holder's DROP is freed (01 R3, R11). -/
def Claims.dropHolder (c : Claims) (s : Station) : Claims :=
  let free (v : Claim) : Claim := if v.heldBy s then Machine.Claim.free else v
  { c with floor := free c.floor, lane := free c.lane, close := free c.close, drain := free c.drain }

/-- A hiring of a dropped home station (01 R11 step 3). -/
def HiringEntry.orphan (h : HiringEntry) (s : Station) : HiringEntry :=
  match h.state with
  | .active st => if h.tag.home = s then { h with state := .orphaned st } else h
  | .orphaned _ => h

/-! ## Claim operations (01 R12 to R15) -/

/-- The sender's right to take a word with this tag (01 R12, R3). -/
def Picture.mayTake (p : Picture) (src : Station) (w : WordId) (tag : BitVec 16) : Bool :=
  match w with
  | .floor => (p.present src .head || p.present src .bay) && decide (tag.toNat ≤ 16)
  | .lane => p.cn40 src
  | .drain =>
    match p.entry src with
    | some e => (e.inServiceAs .gateway || e.inServiceAs .depot) && tag.toNat == src.val
    | none => false
  | .assist => p.isHead src && tag == 0
  | _ => false

/-- The word taken by its new holder. -/
def Picture.hold (p : Picture) (w : WordId) (s : Station) (tag : BitVec 16) : Picture :=
  { p with claims := p.claims.set w ⟨some s, tag⟩ }

/-- The word freed: holder none and tag 0 (01 R3). -/
def Picture.freeWord (p : Picture) (w : WordId) : Picture :=
  { p with claims := p.claims.set w Machine.Claim.free }

/-- TAKE (01 R12). -/
def Picture.take (p : Picture) (src : Station) (w : WordId) (tag : BitVec 16) : Picture × PicResult :=
  if !p.mayTake src w tag then (p, .busy)
  else if p.free w then (p.hold w src tag, .won)
  else if p.holds w src then (p, .already)
  else (p, .busy)

/-- The seat word is held by the sender under this tag. -/
def Picture.seatUnder (p : Picture) (src : Station) (tag : Tag) (i : Fin 6) : Bool :=
  p.claim (.seat i) == ⟨some src, tag.code⟩

/-- The free seats of the set become held under the tag (01 R13). -/
def Picture.holdSeats (p : Picture) (src : Station) (tag : Tag) (l : List (Fin 6)) : Picture :=
  l.foldl (fun q i => q.hold (.seat i) src tag.code) p

/-- TAKE_SET (01 R13). A set with bit 6 or 7, or a tag of sequence 0, is out of range (01 R6). -/
def Picture.takeSet (p : Picture) (src : Station) (seats : SeatSet) (tag : Tag) : Picture × PicResult :=
  let l := SeatSet.seats seats
  if !(SeatSet.valid seats && tag.inRange && seats != 0 && tag.home == src && p.cn40 src) then (p, .busy)
  else if l.all (p.seatUnder src tag) then (p, .already)
  else if l.all fun i => p.free (.seat i) || p.seatUnder src tag i then (p.holdSeats src tag l, .won)
  else (p, .busy)

/-- GIVE (01 R14). -/
def Picture.give (p : Picture) (src : Station) (w : WordId) : Picture × PicResult :=
  if p.holds w src && w != .shift && w != .close then (p.freeWord w, .freed) else (p, .notFreed)

/-- SEIZE (01 R15). -/
def Picture.seize (p : Picture) (src : Station) (w : WordId) (tag : BitVec 16) : Picture × PicResult :=
  let inRange := match w with
    | .floor => decide (tag.toNat ≤ 16)
    | .lane => true
    | _ => false
  if p.isHead src && inRange then (p.hold w src tag, .won) else (p, .busy)

/-! ## Shift frames (01 R16 to R19) -/

/-- SHIFT_OPEN (01 R16). Its refusals reach the console as WRONG_STATE (11 R182). -/
def Picture.shiftOpen (p : Picture) (src : Station) (number driver : Nat) (opened : Stamp) : Picture × PicResult :=
  if p.isHead src && p.free .shift && decide (1 ≤ number ∧ number ≤ 65535 ∧ 1 ≤ driver ∧ driver ≤ 9999) then
    ({ p.hold .shift src (BitVec.ofNat 16 number) with shift := some ⟨number, driver, opened⟩ }, .done)
  else (p, .refused .wrongState)

/-- CLOSE_CALL (01 R17). The reasons are those 11 R184 gives the console. -/
def Picture.closeCall (p : Picture) (src : Station) (number : Nat) : Picture × PicResult :=
  if p.isHead src && !p.free .shift && p.free .close && (p.claim .shift).tag.toNat == number then
    (p.hold .close src (BitVec.ofNat 16 number), .done)
  else if !p.free .close then (p, .refused .closing)
  else if p.free .shift then (p, .refused .offShift)
  else (p, .refused .wrongState)

/-- CLOSE_ABANDON (01 R18). -/
def Picture.closeAbandon (p : Picture) (src : Station) : Picture × PicResult :=
  if p.holds .close src then (p.freeWord .close, .done) else (p, .refused .wrongState)

/-- CLOSE_COMMIT (01 R19). -/
def Picture.closeCommit (p : Picture) (src : Station) (number : Nat) : Picture × PicResult :=
  if p.holds .close src && (p.claim .close).tag.toNat == number then
    ((p.freeWord .shift).freeWord .close, .done)
  else (p, .refused .wrongState)

/-! ## Hiring frames (01 R20 to R23) -/

/-- The roster has room for a mode: a SOLO entry stands alone (01 R4, R20 check 8); a mode that is neither fits nowhere (01 R6, log 16). -/
def Picture.modeFits (p : Picture) (mode : Option Mode) : Bool :=
  match mode with
  | some .solo => p.hirings.isEmpty
  | some .shared => !p.hirings.any fun h => h.mode == .solo
  | none => false

/-- The checks of R20 in order; `full` makes all nine, else those R23 makes for a new entry (2, 3, 4, 7, 8, 9). A seat set that names no seat is met at check 9, whose reason it takes. -/
def Picture.openCheck (p : Picture) (full : Bool) (src : Station) (tag : Tag) (mode : Option Mode) (seats : SeatSet) :
    Option Reason :=
  if full && !p.cn40 src then some .notInService
  else if !(tag.home == src && tag.inRange && (p.hiring tag).isNone) then some .wrongState
  else if p.free .shift then some .offShift
  else if !p.free .close then some .closing
  else if full && p.lockout then some .lockout
  else if full && !p.headIn then some .headLost
  else if !decide (p.hirings.length < 4) then some .rosterFull
  else if !p.modeFits mode then some .soloConflict
  else if !(SeatSet.valid seats && seats != 0 && (SeatSet.seats seats).all (p.seatUnder src tag)) then some .noSeats
  else none

/-- An entry added at the end (01 R20). -/
def Picture.addHiring (p : Picture) (h : HiringEntry) : Picture := { p with hirings := p.hirings ++ [h] }

/-- HIRE_OPEN (01 R20). -/
def Picture.hireOpen (p : Picture) (src : Station) (tag : Tag) (mode : Option Mode) (seats : SeatSet) (start : Stamp) :
    Picture × PicResult :=
  match p.openCheck true src tag mode seats with
  | some r => (p, .refused r)
  | none => (p.addHiring ⟨tag, mode.getD .shared, seats, .active .running, start⟩, .done)

/-- The entry carrying the tag takes a state. -/
def Picture.setHiring (p : Picture) (tag : Tag) (st : EntryHire) : Picture :=
  { p with hirings := p.hirings.map fun h => if h.tag = tag then { h with state := st } else h }

/-- HIRE_STATE (01 R21). A state out of range is refused with WRONG_STATE (01 R6, log 16). -/
def Picture.hireState (p : Picture) (src : Station) (tag : Tag) (st : Option HireState) : Picture × PicResult :=
  if tag.home ≠ src then (p, .refused .noSuchHiring)
  else match p.hiring tag with
    | none => (p, .refused .noSuchHiring)
    | some h =>
      match h.state with
      | .orphaned _ => (p, .refused .wrongState)
      | .active old =>
        match st with
        | none => (p, .refused .wrongState)
        | some st =>
          if old = .paying ∧ st ≠ .paying then (p, .refused .wrongState)
          else if st = .running ∧ p.headIn = false then (p, .refused .headLost)
          else (p.setHiring tag (.active st), .done)

/-- A JOINING roster entry announces the tag (01 R22). -/
def Picture.announcing (p : Picture) (tag : Tag) : Bool :=
  p.roster.any fun e => e.state == .joining && e.announced == some tag

/-- Every seat word with this tag is freed, whoever holds it (01 R22). -/
def Picture.freeTag (p : Picture) (tag : Tag) : Picture :=
  allSeats.foldl (fun q i => if (q.claim (.seat i)).tag = tag.code ∧ (q.free (.seat i)) = false
    then q.freeWord (.seat i) else q) p

/-- HIRE_CLOSE (01 R22). -/
def Picture.hireClose (p : Picture) (src : Station) (tag : Tag) : Picture × PicResult :=
  match p.hiring tag with
  | none => (p, .refused .noSuchHiring)
  | some h =>
    if tag.home = src ∨ (p.isHead src && h.isOrphan && !p.announcing tag) = true then
      let q := { p with hirings := p.hirings.filter fun x => x.tag != tag }
      (if h.isOrphan then q.freeTag tag else q, .done)
    else (p, .refused .wrongState)

/-- The sender's announced hiring tag is removed (01 R23). -/
def Picture.unannounce (p : Picture) (src : Station) : Picture :=
  { p with roster := p.roster.map fun e => if e.station = src then { e with announced := none } else e }

/-- HIRE_RECLAIM (01 R23). A field out of range refuses the frame for an entry that exists too: a seat set that names no seat with NO_SEATS, a state or a mode with WRONG_STATE (01 R6, log 16). -/
def Picture.hireReclaim (p : Picture) (src : Station) (tag : Tag) (st : Option HireState) (mode : Option Mode) (seats : SeatSet)
    (start : Stamp) : Picture × PicResult :=
  if !p.cn40 src then (p, .refused .notInService)
  else match p.hiring tag with
    | some h =>
      if tag.home ≠ src then (p, .refused .wrongState)
      else if !(SeatSet.valid seats && seats != 0) then (p, .refused .noSeats)
      else match st, mode with
        | some st, some _ =>
          match h.state with
          | .orphaned prior => ((p.setHiring tag (.active prior)).unannounce src, .done)
          | .active _ => ((p.setHiring tag (.active st)).unannounce src, .done)
        | _, _ => (p, .refused .wrongState)
    | none =>
      match p.openCheck false src tag mode seats, st with
      | some r, _ => (p, .refused r)
      | none, none => (p, .refused .wrongState)
      | none, some st => ((p.addHiring ⟨tag, mode.getD .shared, seats, .active st, start⟩).unannounce src, .done)

/-! ## Application (01 R6, R7) -/

/-- DROP (01 R11). -/
def Picture.drop (p : Picture) (s : Station) : Picture :=
  if (p.entry s).isSome then
    { p with
      roster := p.roster.filter fun e => e.station != s
      claims := p.claims.dropHolder s
      hirings := p.hirings.map fun h => h.orphan s }
  else p

/-- STATUS (01 R10). -/
def Picture.status (p : Picture) (src : Station) (st : StatusPay) : Picture :=
  match p.entry src with
  | some e => if st.inRange then { p with roster := putEntry (e.withStatus st) p.roster } else p
  | none => p

/-- HELLO (01 R9). -/
def Picture.hello (p : Picture) (src : Station) (h : HelloPay) : Picture :=
  if h.inRange then { p with roster := putEntry (helloEntry src h (p.entry src)) p.roster } else p

/-- What a frame changes, the sequence apart, and its result. A word name that names no word takes the result of a refusal (01 R6). -/
def Picture.effect (p : Picture) (src : Station) : PicFrame → Picture × PicResult
  | .hello h => (p.hello src h, .done)
  | .status st => (p.status src st, .done)
  | .drop s => (p.drop s, .done)
  | .take (some w) tag => p.take src w tag
  | .take none _ => (p, .busy)
  | .takeSet seats tag => p.takeSet src seats tag
  | .give (some w) => p.give src w
  | .give none => (p, .notFreed)
  | .seize (some w) tag => p.seize src w tag
  | .seize none _ => (p, .busy)
  | .shiftOpen n d o => p.shiftOpen src n d o
  | .closeCall n _ => p.closeCall src n
  | .closeCommit n _ => p.closeCommit src n
  | .closeAbandon => p.closeAbandon src
  | .hireOpen tag mode seats start => p.hireOpen src tag mode seats start
  | .hireState tag st => p.hireState src tag st
  | .hireClose tag => p.hireClose src tag
  | .hireReclaim tag st mode seats start => p.hireReclaim src tag st mode seats start

/-- Whether the application counts: every frame but a STATUS that changes nothing (01 R7). -/
def Picture.counts (p : Picture) (src : Station) : PicFrame → Bool
  | .status st => p.entry src != (p.status src st).entry src
  | _ => true

/-- One frame applied (01 R6, R7). -/
def Picture.apply (p : Picture) (src : Station) (f : PicFrame) : Picture × PicResult :=
  let r := p.effect src f
  ({ r.1 with seq := if p.counts src f then p.seq + 1 else p.seq }, r.2)

/-! ## The laws (01 R2 to R4) -/

/-- The roster is in station order, no two entries of one station (01 R2). -/
def rosterOrdered : List RosterEntry → Bool
  | [] => true
  | e :: rest => rest.all (fun x => decide (e.station < x.station)) && rosterOrdered rest

/-- No two hirings carry the same tag (01 R4). -/
def tagsDistinct : List HiringEntry → Bool
  | [] => true
  | h :: rest => rest.all (fun x => h.tag != x.tag) && tagsDistinct rest

/-- A claim word is free with tag 0, or held (01 R3). -/
def Claim.lawful (c : Claim) : Bool := c.holder.isSome || c.tag == 0

/-- A held seat word is held by the home station of the tag it carries (01 R3). -/
def Claim.seatLawful (c : Claim) : Bool :=
  match c.holder with
  | none => c.tag == 0
  | some s => (c.tag.toNat / 4096) == s.val

/-- The laws the application rules keep (01 R2, R3, R4). -/
def Picture.lawful (p : Picture) : Bool :=
  rosterOrdered p.roster &&
    [p.claims.floor, p.claims.lane, p.claims.shift, p.claims.close, p.claims.drain, p.claims.assist].all Claim.lawful &&
    allSeats.all (fun i => (p.claim (.seat i)).seatLawful) &&
    decide (p.hirings.length ≤ 4) && tagsDistinct p.hirings &&
    (!p.hirings.any (fun h => h.mode == .solo) || decide (p.hirings.length = 1))

end Sys2Proof
end

