-- ==== Sys2Proof/Machine/Shift.lean ====
section
/-! DEFINITION. The tally unit: the shift's opening, the close in two phases, orphan shifts (11), and the timers of a close. -/

namespace Sys2Proof

/-- The shift number after this one: 65535 is followed by 1 (11 R182). -/
def nextShift (n : Nat) : Nat := if 65535 ≤ n then 1 else n + 1

/-- The HEAD's own station stands at its place in station order (11 R186). -/
def insertStation {α : Type} (s : Station) (a : α) : List (Station × α) → List (Station × α)
  | [] => [(s, a)]
  | x :: rest => if s < x.1 then (s, a) :: x :: rest else x :: insertStation s a rest

/-- Why a station's answer is no READY (11 R186): none for READY. -/
def failedAnswer : Option Readiness → Option CloseReason
  | some .ready => none
  | some (.notReady r) => some r
  | none => some .noReply

def Frame.isTally : Frame → Bool
  | .tally _ _ => true
  | _ => false

/-- An answer that says the station is not ready (11 R186). -/
def saysNo : Option Readiness → Bool
  | some (.notReady _) => true
  | _ => false

/-- The counters that the summary takes from every tally; the vehicle's distance and time come from the HEAD alone (11 R189). -/
def TallyVals.taken (t : TallyVals) : TallyVals := { t with hired := 0, empty := 0, seconds := 0 }

end Sys2Proof

namespace Sys2Proof.Machine

def Work.onShift (w : Work) (f : Shift → Shift) : Work := { w with shift := f w.shift }

def Work.onTally (w : Work) (f : TallyRet → TallyRet) : Work := { w with ret := { w.ret with tally := f w.ret.tally } }

/-- The close collection table empty, phase NONE (11 R184). -/
def Shift.noTable (s : Shift) : Shift :=
  { s with phase := .none, number := 0, force := false, expected := [], own := none, tallies := [], limit := none, decision := none }

/-! ## Readiness and answers (11 R185) -/

/-- Whether the node is ready to close (11 R185). -/
def readiness (w : Work) (force : Bool) : Readiness :=
  if !w.ret.slot.state.isFree then .notReady .hiring
  else if !(w.ret.card.txn == .idle) then .notReady .card
  else if w.ret.journal.lockout then .notReady .lockout
  else if !(w.ret.card.forward.isEmpty || force) then .notReady .forward
  else .ready

/-- The CLOSE_READY of the close answered waits behind COMMAND (11 R185, 02 R42), in the place of one of an earlier CLOSE_CALL that still waits there (log 65). -/
def offerReady (a : Answered) (w : Work) : Work :=
  { w with sel := { w.sel with waitReady := some (.closeReady a.holder a.shift (readiness w a.force)) } }

/-- The picture shows CLOSE held by the same holder with the same tag (11 R185). -/
def Answered.stands (a : Answered) (p : Picture) : Bool :=
  p.claim .close == ⟨some a.holder, BitVec.ofNat 16 a.shift⟩

/-- The outcome of a CLOSE_READY (11 R185). -/
def readyOutcome (c : Core) (dst : Station) (number : Nat) (r : FrameResult) (w : Work) : Work :=
  match r, w.shift.answered with
  | .taken, _ => w
  | .refused, _ => w
  | _, some a =>
    if a.holder = dst ∧ a.shift = number ∧ a.stands c.view = true ∧ c.inService = true ∧ w.sel.waitReady.isNone = true then
      offerReady a w
    else w
  | _, none => w

/-! ## The decision (11 R186) -/

/-- Every expected station has an answer. -/
def Shift.answeredAll (s : Shift) : Bool := s.expected.all fun e => e.2.isSome

/-- The stations that were not ready or are missing, in station order, the HEAD included. -/
def Shift.failed (s : Shift) (me : Station) : List (Station × CloseReason) :=
  (insertStation me s.own s.expected).filterMap fun e => (failedAnswer e.2).map fun r => (e.1, r)

/-- Commit or abandon (11 R186). -/
def decideClose (c : Core) (w : Work) : Work :=
  let s := w.shift
  let bad := s.failed c.me
  let no := saysNo s.own || s.expected.any fun e => saysNo e.2
  let commit := !no && (s.force || s.answeredAll)
  let f : PicFrame := if commit then .closeCommit s.number s.force else .closeAbandon
  let w := w.onShift fun s => { s with phase := .decided, limit := none, decision := some f }
  if commit then w else raise c { kind := .shiftCloseFailed, origin := c.me, stations := bad.take 5 } w

/-- The HEAD decides when every answer is in. -/
def decideIfAll (c : Core) (w : Work) : Work :=
  if w.shift.phase == .answering && w.shift.answeredAll then decideClose c w else w

/-- A CLOSE_READY at the HEAD (11 R186): none is REFUSED. -/
def takeReady (c : Core) (src : Station) (number : Nat) (r : Readiness) (w : Work) : Option Work :=
  let s := w.shift
  if c.isHead && s.phase == .answering && s.expected.any (fun e => e.1 == src) && s.number == number then
    some (decideIfAll c (w.onShift fun s =>
      { s with expected := s.expected.map fun e => if e.1 = src then (e.1, some r) else e }))
  else none

/-! ## Standing offers -/

/-- What the tally/shift producer offers while the HEAD is in service and holds CLOSE (11 R186, R189), and the TALLY that is still to be delivered (11 R187). -/
def shiftPoll (c : Core) (w : Work) : Work :=
  let w :=
    if c.inService && c.isHead && c.view.holds .close c.me then
      match w.shift.phase, w.shift.decision with
      | .decided, some f => offerPic c .tally .plain (.pic f) w
      | _, _ => if w.shift.stray then offerPic c .tally .plain (.pic .closeAbandon) w else w
    else w
  match w.shift.tallySent, w.shift.tallyEnd with
  | some (n, t), some _ =>
    let there := match w.sel.bulk with
      | some o => Frame.isTally o.frame
      | none => false
    if c.inService && w.sel.waitTally.isNone && !there then
      { w with sel := { w.sel with waitTally := some (.tally n t) } }
    else w
  | _, _ => w

/-- The outcome of a TALLY of this shift (11 R187): one that is ABANDONED, or owed for a later shift, is offered by `shiftPoll`. -/
def tallyOutcome (number : Nat) (r : FrameResult) (w : Work) : Work :=
  if r = .applied ∧ (w.shift.tallySent.map fun s => s.1) = some number then
    w.onShift fun s => { s with tallySent := none, tallyEnd := none }
  else w

/-! ## Applied shift frames (11 R183 to R189) -/

/-- The record and the copy of a shift opened, and the offline count (11 R183, R190, 09 R145). -/
def joinShift (c : Core) (s : ShiftRec) (w : Work) : Work :=
  let w := holdTally (w.record c (.shiftOpen s)) false false w
  let w := w.onTally fun t => { t with copy := some ⟨s, true⟩ }
  w.onCardRet fun k => { k with offlineCount := 0 }

/-- The SHIFT_CLOSE record with its seal request, and the copy CLOSED in the same update (11 R187, R190). -/
def closeShift (c : Core) (forced orphan : Bool) (w : Work) : Work :=
  let w := holdTally (w.record c (.shiftClose w.ret.tally.tally forced orphan)) true forced w
  w.onTally fun t => { t with copy := t.copy.map fun x => { x with isOpen := false } }

/-- A committed close at a node that holds the picture (11 R187); a LISTENER and the HEAD send no TALLY. The TALLY's shift number is the CLOSE_COMMIT's (log 59). -/
def commitShift (c : Core) (number : Nat) (force : Bool) (w : Work) : Work :=
  let w := if force then forcedClose c w else w
  let vals := w.ret.tally.tally
  let w := closeShift c force false w
  if c.isBay && c.inService then
    w.onShift fun s => { s with tallyEnd := some (w.now + sec 5), tallySent := some (number, vals) }
  else w

/-- The HEAD's own CLOSE_CALL has been applied DONE: ANSWERING (11 R184). -/
def startAnswering (c : Core) (number : Nat) (force : Bool) (w : Work) : Work :=
  let bays := (c.view.roster.filter fun e => e.inServiceAs .bay).map fun e => (e.station, (none : Option Readiness))
  let w := answerIf .shiftClose none w
  decideIfAll c (w.onShift fun s =>
    { s with phase := .answering, number := number, force := force, expected := bays, tallies := [],
             own := some (readiness w force), limit := some (w.now + sec 5), decision := none })

/-- The tally unit at the change notice of a shift frame; `own`: this node's producer sent it. -/
def shiftFrame (c : Core) (src : Station) (f : PicFrame) (r : PicResult) (own : Bool) (w : Work) : Work :=
  match f, r with
  | .shiftOpen n d o, .done =>
    let w := if own then answerIf .shiftOpen none w else w
    let w := joinShift c ⟨n, d, o⟩ w
    if c.isHead then w.onShift Shift.noTable else w
  | .shiftOpen _ _ _, _ => if own then answerIf .shiftOpen (some .wrongState) w else w
  | .closeCall n force, .done =>
    if own then startAnswering c n force w
    else if c.inService && src != c.me then
      let a : Answered := ⟨n, force, src⟩
      offerReady a (w.onShift fun s => { s with answered := some a })
    else w
  | .closeCall _ _, r =>
    if own then
      let reason : Reason := match r with
        | .refused x => x
        | _ => .wrongState
      answerIf .shiftClose (some reason) (w.onShift Shift.noTable)
    else w
  | .closeAbandon, .done =>
    if own then
      let stray := w.shift.stray
      let w := w.onShift fun s => { s.noTable with stray := false }
      if stray then raise c { kind := .shiftCloseFailed, origin := c.me } w else w
    else w
  | .closeAbandon, _ => if own then w.onShift fun s => { s with stray := false } else w
  | .closeCommit n force, .done =>
    let w := commitShift c n force w
    if own then w.onShift fun s => { s with phase := .collecting, limit := some (w.now + sec 5), decision := none } else w
  | _, _ => w

/-- The tally unit at any change notice: the frame, then the close answered, which is forgotten when CLOSE no longer stands (11 R185, R186); a CLOSE_READY that waits, not begun, still goes out (log 58). -/
def shiftNotice (c : Core) (src : Station) (f : PicFrame) (r : PicResult) (own : Bool) (w : Work) : Work :=
  let w := shiftFrame c src f r own w
  match w.shift.answered with
  | some a => if a.stands c.view then w else w.onShift fun s => { s with answered := none }
  | none => w

/-- The tally/shift producer's frame has been ABANDONED (11 R182, R184); the decision is offered again by `shiftPoll`. -/
def shiftAbandoned (f : PicFrame) (a : Abandon) (w : Work) : Work :=
  match f with
  | .shiftOpen _ _ _ => answerIf .shiftOpen (some a.reason) w
  | .closeCall _ _ => answerIf .shiftClose (some a.reason) (w.onShift Shift.noTable)
  | _ => w

/-! ## Collecting (11 R188, R189) -/

/-- A TALLY at the HEAD's tally unit (11 R188). -/
def takeTally (c : Core) (src : Station) (number : Nat) (t : TallyVals) (w : Work) : Work :=
  let s := w.shift
  if c.isHead && s.phase == .collecting && s.number == number && c.view.hasRole src .bay &&
      !s.tallies.any (fun e => e.1 == src) then
    w.onShift fun s => { s with tallies := s.tallies ++ [(src, t)] }
  else w

/-- The vehicle summary (11 R189). -/
def summaryOf (w : Work) : Summary where
  shift := w.shift.number
  sums := w.shift.tallies.foldl (fun a e => a.plus e.2.taken) w.ret.tally.tally
  missing := ((w.shift.expected.filter fun e => !w.shift.tallies.any fun t => t.1 == e.1).map fun e => e.1).take 4

/-- TALLY_COLLECT_LIMIT_EXPIRY (11 R189). -/
def collectLimit (c : Core) (w : Work) : Work :=
  match w.shift.phase, w.shift.limit with
  | .collecting, some t =>
    let w := w.reach t
    let v := summaryOf w
    let w := holdTally (w.record c (.vehicleSummary v)) false false w
    let w := raise c { kind := .shiftClosed, origin := c.me, value := some v.shift } w
    (report c (.summary v) w).onShift Shift.noTable
  | _, _ => w

/-- CLOSE_ANSWER_LIMIT_EXPIRY (11 R186). -/
def answerLimit (c : Core) (w : Work) : Work :=
  match w.shift.phase, w.shift.limit with
  | .answering, some t => decideClose c (w.reach t)
  | _, _ => w

/-- TALLY_RETRY_WINDOW_EXPIRY (11 R187). -/
def tallyWindow (w : Work) : Work :=
  match w.shift.tallyEnd with
  | some t => (w.reach t).onShift fun s => { s with tallyEnd := none, tallySent := none }
  | none => w

/-! ## The finishing notice (11 R189, R190), loss of service (11 R184, R185) -/

/-- Two shifts are the same (11 R190). -/
def sameShift (a b : ShiftRec) : Bool := a.number == b.number && a.opened == b.opened

/-- The comparison of R190. -/
def orphanCheck (c : Core) (w : Work) : Work :=
  let held : Option ShiftRec := if c.view.free .shift then none else c.view.shift
  match w.ret.tally.copy, held with
  | some k, some s =>
    if sameShift k.shift s then w
    else if k.isOpen then joinShift c s (closeShift c false true w)
    else joinShift c s w
  | some k, none => if k.isOpen then closeShift c false true w else w
  | none, some s => joinShift c s w
  | none, none => w

/-- The tally unit at the finishing notice, the node IN_SERVICE (11 R189, R190). -/
def shiftFinish (c : Core) (w : Work) : Work :=
  let w := orphanCheck c w
  if c.isHead && c.view.holds .close c.me && w.shift.phase == .none then w.onShift fun s => { s with stray := true } else w

/-- The node leaves service: the table is discarded and no answer is owed (11 R184, R185, R189). -/
def shiftLost (w : Work) : Work := w.onShift fun s => { s.noTable with stray := false, answered := none }

/-! ## Console requests (11 R182, R184) -/

/-- Why SHIFT_OPEN is refused (11 R182). -/
def shiftOpenCheck (c : Core) (driver : Nat) (w : Work) : Option Reason :=
  if !c.inService then some .notInService
  else if driver < 1 ∨ 9999 < driver then some .wrongState
  else if !c.view.free .shift then some .wrongState
  else if w.shift.phase == .collecting then some .closing
  else none

/-- The counter advances and SHIFT_OPEN is offered (11 R182). -/
def askShiftOpen (c : Core) (driver : Nat) (w : Work) : Work :=
  let w := w.onTally fun t => { t with counter := nextShift t.counter }
  offerPic c .tally .console (.pic (.shiftOpen w.ret.tally.counter driver w.stamp)) w

/-- Why SHIFT_CLOSE is refused (11 R184). -/
def shiftCloseCheck (c : Core) (w : Work) : Option Reason :=
  if !c.inService then some .notInService
  else if c.view.free .shift then some .offShift
  else if !c.view.free .close || !(w.shift.phase == .none) then some .closing
  else none

/-- CALLING: CLOSE_CALL is offered (11 R184). -/
def askShiftClose (c : Core) (force : Bool) (w : Work) : Work :=
  let n := (c.view.claim .shift).tag.toNat
  offerPic c .tally .console (.pic (.closeCall n force))
    (w.onShift fun s => { s with phase := .calling, number := n, force := force })

end Sys2Proof.Machine
end

