-- ==== Sys2Proof/Machine/Join.lean ====
section
/-! DEFINITION. The join controller (03): leaving service, joining, snapshots, founding, the finish; and its timers. -/

namespace Sys2Proof

/-- The number of a snapshot part (03 R54). -/
def PartContent.no : PartContent → Nat
  | .roster _ => 0
  | .words _ _ _ => 1
  | .hirings _ => 2

/-- Part k of a frozen copy, with the line sequence of this moment (03 R54). -/
def Picture.part (p : Picture) (line : BitVec 16) (k : Nat) : SnapPart :=
  match k with
  | 0 => ⟨p.seq, line, .roster p.roster⟩
  | 1 => ⟨p.seq, line, .words p.claims p.shift p.digest⟩
  | _ => ⟨p.seq, line, .hirings p.hirings⟩

/-- The frozen copy that three parts describe (03 R56). -/
def partsCopy (parts : List SnapPart) : Option Picture :=
  match parts with
  | [p0, p1, p2] =>
    match p0.content, p1.content, p2.content with
    | .roster r, .words c s d, .hirings h => some ⟨r, c, h, s, d, p0.base⟩
    | _, _, _ => none
  | _ => none

/-- A role of a CN40 in a state. -/
def RosterEntry.cn40As (e : RosterEntry) (st : EntryState) : Bool := (e.role == .head || e.role == .bay) && e.state == st

/-- The lowest-numbered HEAD or BAY in a state; the roster is in station order (03 R54). -/
def Picture.lowestCn40 (p : Picture) (st : EntryState) : Option Station :=
  (p.roster.find? fun e => e.cn40As st).map fun e => e.station

/-- Another station with role HEAD in service (03 R58, R61). -/
def Picture.otherHead (p : Picture) (me : Station) (low : Bool) : Bool :=
  p.roster.any fun e => e.inServiceAs .head && e.station != me && (!low || decide (e.station < me))

/-- The station's entry says that it is in service (03 R58 check 1). -/
def Picture.declared (p : Picture) (s : Station) : Bool :=
  match p.entry s with
  | some e => e.state != .joining
  | none => false

end Sys2Proof

namespace Sys2Proof.Machine

/-- The core in another node line state that holds no picture (03 section 3.1). -/
def Core.move (c : Core) (st : NodeState) : Core := { c with node := st, halt := none, pic := none }

def Work.onJoin (w : Work) (f : Join → Join) : Work := { w with join := f w.join }

/-! ## Entering JOINING (03 R51) -/

/-- The HELLO of this node (03 R51). -/
def helloOf (c : Core) (w : Work) : PicFrame :=
  .hello ⟨some c.straps.role.role, c.straps.sign, c.isHead && c.straps.odometer, c.cfg.seatMask, c.digest, w.ret.slot.tag?⟩

/-- No timer of the join runs. -/
def Join.resting (j : Join) : Bool := j.listen.isNone && j.limit.isNone && j.reask.isNone

/-- The join producer's HELLO, offered again while nothing of the join runs; one still in the selector stands for it (03 R51, log 45). -/
def joinPoll (c : Core) (w : Work) : Work :=
  if c.node == .joining && w.join.resting && !w.sel.has .join then
    offerPic c .join .plain (.pic (helloOf c w)) w
  else w

/-- JOINING is entered from any state other than FOUNDING (03 R51). -/
def enterJoining (c : Core) (w : Work) : Work :=
  joinPoll c { w with join := Join.init, line := { w.line with objections := 0 } }

/-! ## Leaving service (03 R62, 02 R35) -/

/-- The frame in this slot belongs to the console's request and its attempt is under way (02 R35, log 11). -/
def underRequest (k : SlotId) (w : Work) : Bool :=
  w.line.sending && w.line.inHand == some k &&
    match w.sel.get k with
    | some o => o.purpose == .console
    | none => false

/-- The request in progress is answered NOT_IN_SERVICE, unless its addressed frame or TIME is on the line (log 11). -/
def dropRequest (w : Work) : Work :=
  match w.con.request with
  | none => w
  | some .hire => if underRequest .command w then w else answer (some .notInService) w
  | some .call => if underRequest .call w then w else answer (some .notInService) w
  | some .setTime => if underRequest .meter w then w else answer (some .notInService) w
  | some _ => answer (some .notInService) w

/-- What stood in the ALERT slot stays in the queue, but for a frame whose attempt is under way (07 R119). -/
def alertsLost (w : Work) : Work :=
  if w.sel.alert.isSome then w
  else { w with alerts := { w.alerts with queue := w.alerts.queue.map fun x => { x with inSlot := false } } }

/-- The service-lost notice and what else ends with the picture (03 R62, 02 R43 to R45, 04 R71, 05 R105, 10 R176, 11 R184). `c` is the node before, `c'` after. The card engine's alerts are raised before the part of a returned ALERT frame counts as out of its slot (log 66). -/
def serviceLost (c c' : Core) (w : Work) : Work :=
  let i := w.ic
  let w := w |> hiringSuspend c' |> cardLost c' |> intercomLost |> callTold c i c'
  let w := w |> stopStream |> shiftLost |> meterLost |> watchStop |> alertsLost
  { w with store := Store.init }

/-- The node leaves its node line state for JOINING, DETACHED or HALTED (02 R35, 03 R51, R62, R63); the reports of the service-lost notice come before the report STATUS, and that before the report SIGN (log 48). -/
def leave (st : NodeState) (h : Option HaltReason) (n : Node) : Node :=
  let c := n.core
  let c' : Core := { c with node := st, halt := h, pic := none }
  let w := fareEmptied n.w (emptySelector (st == .joining) n.w)
  let w := if c.serving then serviceLost c c' w else w
  let w := w |> reportStatus c' |> signDerive c' |> dropRequest
  let w := { w with join := Join.init }
  let w :=
    match st with
    | .joining => enterJoining c' w
    | .detached => w.onJoin fun j => { j with detached := some (w.now + sec 1) }
    | _ => w
  ⟨c', w⟩

/-- HALTED (03 R63). -/
def haltNode (r : HaltReason) (n : Node) : Node := leave .halted (some r) n

/-! ## The joining state (03 R52, R53) -/

/-- The re-ask timer of 1 s starts, and the snapshot limit rests; parts and catch-up list are as they were (03 R57, log 20). -/
def reaskWait (w : Work) : Work := w.onJoin fun j => { j with limit := none, reask := some (w.now + sec 1) }

/-- The discard: parts and catch-up list go, and the re-ask timer starts (03 R53, R55, R56). -/
def reask (w : Work) : Work := reaskWait (w.onJoin fun j => { j with parts := [], caught := [], answerer := none })

/-- A station is heard joining (03 R52). Without a role, as of SNAPSHOT_ASK or of a HELLO whose role is out of range (log 50), the role heard before stands. -/
def hear (src : Station) (role : Option Role) (w : Work) : Work :=
  w.onJoin fun j =>
    { j with
      heard := (j.heard.filter fun e => e.1 != src) ++ [(src, w.now)]
      roles := match role with
        | some r => (j.roles.filter fun e => e.1 != src) ++ [(src, r)]
        | none => j.roles }

/-- A completed frame shows a picture in service (03 R52). -/
def witness (w : Work) : Work := w.onJoin fun j => { j with evidence := some w.now }

/-- A picture-changing frame joins the catch-up list once a SNAPSHOT_ASK of this node has completed, in the re-ask wait and in FOUNDING too (03 R52); one that finds 16 there restarts the re-ask wait (03 R55, log 20). -/
def catchUp (src : Station) (f : PicFrame) (w : Work) : Work :=
  if !w.join.asked then w
  else if w.join.caught.length < 16 then w.onJoin fun j => { j with caught := j.caught ++ [⟨src, f, j.parts.length⟩] }
  else reask w

/-- This node's SNAPSHOT_ASK has completed (03 R53); a re-ask timer that a full catch-up list started while the ask waited stops (log 20). -/
def askDone (w : Work) : Work :=
  w.onJoin fun j =>
    { j with asked := true, parts := [], caught := [], answerer := none, limit := some (w.now + ms 500), reask := none }

/-- A FOUNDING node goes back to JOINING (03 R57): no HELLO, the re-ask timer only; the objection run count is 0 (02 R46). The catch-up list is kept, since 03 R51 and R57 name no discard (log 20). -/
def unfound (n : Node) : Node :=
  let c := n.core.move .joining
  let w := withdrawPic .join n.w
  ⟨c, reportStatus c (reaskWait { w with line := { w.line with objections := 0 } })⟩

/-- The founding STATUS is in the FIFO or the slot and not begun (03 R57). -/
def foundingWaits (n : Node) : Bool := n.core.node == .founding && (n.w.sel.waiting? .join).isSome

/-! ## Entering service (03 R57, R58, 02 R43, R44, 06 R113) -/

/-- The silence timers of the other stations of a roster, from now (02 R44). -/
def freshSilence (me : Station) (now : Time) (p : Picture) : List Silence :=
  (p.roster.filter fun e => e.station != me).map fun e => ⟨e.station, now, false⟩

/-- The node holds a picture from now on: the timers start, the join's own stop, the report STATUS is given, then the sign is derived (log 48), then the console is told of a FLOOR that the picture shows held (08 R144). -/
def enterService (st : NodeState) (p : Picture) (announce : Announce) (n : Node) : Node :=
  let c : Core := { n.core with node := st, halt := none, pic := some p }
  let w := n.w
  let w := { w with store := ⟨some w.now, freshSilence c.me w.now p, [], false⟩ }
  let w := w.onJoin fun j =>
    { j with parts := [], caught := [], answerer := none, listen := none, limit := none, reask := none, announcing := announce }
  ⟨c, w |> reportStatus c |> signDerive c |> callTold n.core w.ic c⟩

/-- The finishing notice (03 R59): the card engine's GIVE of LANE is its standing work. -/
def finishNotice (c : Core) (w : Work) : Work := if c.inService then shiftFinish c (hiringFinish c w) else w

/-! ## Founding (03 R57) -/

/-- The founder's shift record (03 R57, 11 R179). -/
def seedShift (w : Work) : Option ShiftRec :=
  match w.ret.tally.copy with
  | some k => if k.isOpen then some k.shift else none
  | none => none

/-- The founder's roster entry (03 R57). -/
def founderEntry (c : Core) (w : Work) (st : StatusPay) : RosterEntry where
  station := c.me
  role := c.straps.role.role
  sign := c.straps.sign
  odometer := c.isHead && c.straps.odometer
  mask := c.cfg.seatMask
  digest := c.digest
  state := .inService
  lockout := st.lockout
  halfA := st.halfA
  halfB := st.halfB
  fwd := st.fwd
  announced := w.join.helloTag

/-- The founded picture (03 R57). -/
def foundedPicture (c : Core) (w : Work) (st : StatusPay) : Picture where
  roster := [founderEntry c w st]
  claims := match seedShift w with
    | some s => { Claims.free with shift := ⟨some c.me, BitVec.ofNat 16 s.number⟩ }
    | none => Claims.free
  hirings := []
  shift := seedShift w
  digest := c.digest
  seq := 0

/-- The founding STATUS has completed (03 R57, R59). -/
def found (st : StatusPay) (n : Node) : Node :=
  let n := enterService .inService (foundedPicture n.core n.w st) .done n
  ⟨n.core, lampReports n.core (finishNotice n.core n.w)⟩

/-- The founding decision at a snapshot limit with no part (03 R57). -/
def mayFound (c : Core) (w : Work) : Bool :=
  (match w.join.evidence with
   | some t => decide (ms 2500 < w.now - t)
   | none => true) && w.join.heard.all fun e => decide (c.me < e.1)

/-- FOUNDING: the join producer offers the founding STATUS (03 R57). -/
def startFounding (n : Node) : Node :=
  let c := n.core.move .founding
  let w := n.w.onJoin fun j => { j with limit := none }
  let w := reportStatus c w
  ⟨c, offerPic c .join .plain (.pic (.status (statusNow c w))) w⟩

/-! ## Assembly and adoption (03 R55, R56, R58) -/

/-- The catch-up frames that completed with so many parts held, applied in order (03 R56). -/
def applyCaught (k : Nat) (l : List Caught) (p : Picture) : Picture :=
  (l.filter fun x => x.parts == k).foldl (fun q x => (q.apply x.src x.frame).1) p

/-- The picture the parts and the list give, if the three comparisons hold (03 R56). Parts that describe no picture are discarded as a failed comparison is (log 20). -/
def assemble (j : Join) : Option Picture :=
  match partsCopy j.parts, j.parts with
  | some p, [p0, p1, p2] =>
    let q0 := applyCaught 0 j.caught p
    let q1 := applyCaught 1 j.caught q0
    let q2 := applyCaught 2 j.caught q1
    if p.lawful && q0.seq == p0.line && q1.seq == p1.line && q2.seq == p2.line then some q2 else none
  | _, _ => none

/-- CONFIG_MISMATCH (03 R58 check 3). -/
def mismatch (c : Core) (p : Picture) (w : Work) : Work :=
  raise c { kind := .configMismatch, origin := c.me, value := some c.digest.toNat, value2 := some p.digest.toNat } w

/-- The checks of an adopted picture (03 R58); CONFIG_MISMATCH comes before the lamp alerts of the entry into service (log 48). -/
def adopt (p : Picture) (n : Node) : Node :=
  let c := n.core
  if p.declared c.me then haltNode .duplicateStation n
  else if c.isHead && p.otherHead c.me false then haltNode .duplicateHead n
  else
    let a : Announce := if (p.entry c.me).isSome then .status else .hello
    if c.digest = p.digest then
      let n := enterService .inService p a n
      ⟨n.core, lampReports n.core n.w⟩
    else
      let n := enterService .listener p a n
      ⟨n.core, lampReports n.core (mismatch n.core p n.w)⟩

/-- The part is the next one expected, of the same answer (03 R55). -/
def partFits (j : Join) (src : Station) (p : SnapPart) : Bool :=
  p.content.no == j.parts.length &&
    match j.parts with
    | [] => true
    | p0 :: _ => j.answerer == some src && p0.base == p.base

/-- A SNAPSHOT addressed to the joiner while its snapshot limit runs (03 R55, R56). -/
def takePart (src : Station) (p : SnapPart) (n : Node) : Node :=
  let j := n.w.join
  if j.limit.isNone then n
  else if !partFits j src p then ⟨n.core, reask n.w⟩
  else
    let w := n.w.onJoin fun j => { j with parts := j.parts ++ [p], answerer := some src }
    if w.join.parts.length < 3 then ⟨n.core, w⟩
    else match assemble w.join with
      | some q => adopt q ⟨n.core, w⟩
      | none => ⟨n.core, reask w⟩

/-! ## Answering SNAPSHOT_ASK (03 R54) -/

/-- This node answers (03 R54, R60). -/
def answers (c : Core) : Bool :=
  let p := c.view
  if c.inService then p.lowestCn40 .inService == some c.me
  else c.node == .listener && (p.lowestCn40 .inService).isNone &&
    ((p.roster.find? fun e => e.state == .listener).map fun e => e.station) == some c.me

/-- The part being served goes to the BULK slot's sub-source. -/
def servePart (c : Core) (w : Work) : Work :=
  match w.join.serving with
  | some s => { w with sel := { w.sel with waitSnapshot := some (.snapshot s.joiner (s.copy.part c.view.seq s.part)) } }
  | none => w

/-- A completed SNAPSHOT_ASK at a holder of the picture (03 R54). -/
def takeAsk (c : Core) (src : Station) (w : Work) : Work :=
  if c.serving && w.join.serving.isNone && answers c then
    servePart c (w.onJoin fun j => { j with serving := some ⟨src, c.view, 0⟩ })
  else w

/-- The outcome of a SNAPSHOT (03 R54). -/
def snapshotOutcome (c : Core) (dst : Station) (p : SnapPart) (r : FrameResult) (w : Work) : Work :=
  match w.join.serving with
  | none => w
  | some s =>
    if s.joiner = dst ∧ s.part = p.content.no then
      if r = .taken ∧ s.part < 2 then servePart c (w.onJoin fun j => { j with serving := some { s with part := s.part + 1 } })
      else w.onJoin fun j => { j with serving := none }
    else w

/-! ## Announcing (03 R58) -/

/-- The frame still to announce this node with is offered while it is not in the selector. -/
def announcePoll (c : Core) (w : Work) : Work :=
  if !c.serving then w
  else match w.join.announcing with
    | .done => w
    | .status => if w.sel.has .status then w else statusTold c w
    | .hello => if w.sel.has .join then w else offerPic c .join .plain (.pic (helloOf c w)) w

/-- The node's own frame has been applied: HELLO is followed by STATUS, which finishes the join (03 R58, R59). -/
def announceOwn (c : Core) (f : PicFrame) (w : Work) : Work :=
  match f, w.join.announcing with
  | .hello _, .hello => w.onJoin fun j => { j with announcing := .status }
  | .status _, .status => finishNotice c (w.onJoin fun j => { j with announcing := .done })
  | _, _ => w

/-! ## The join's own frames and timers -/

/-- The join producer's frame has completed while the node holds no picture (03 R51, R53, R57). -/
def joinDone (f : Frame) (n : Node) : Node :=
  match f, n.core.node with
  | .pic (.hello h), .joining => ⟨n.core, n.w.onJoin fun j => { j with listen := some (n.w.now + ms 300), helloTag := h.tag }⟩
  | .snapshotAsk, .joining => ⟨n.core, askDone n.w⟩
  | .pic (.status st), .founding => found st n
  | _, _ => n

/-- SNAPSHOT_ASK is offered (03 R51, R53). -/
def offerAsk (c : Core) (w : Work) : Work := offerPic c .join .plain .snapshotAsk w

/-- The join producer's frame has been ABANDONED (03 R51, R53, R57); a HELLO is offered again by `joinPoll` and `announcePoll`. -/
def joinAbandoned (f : Frame) (n : Node) : Node :=
  match f, n.core.node with
  | .snapshotAsk, .joining => ⟨n.core, offerAsk n.core n.w⟩
  | .pic (.status _), .founding => unfound n
  | _, _ => n

/-- LISTEN_TIMER_EXPIRY (03 R51). -/
def listenExpiry (c : Core) (w : Work) : Work :=
  match w.join.listen with
  | some t => offerAsk c ((w.reach t).onJoin fun j => { j with listen := none })
  | none => w

/-- SNAPSHOT_LIMIT_EXPIRY: with parts held they are discarded (03 R53); with none the node founds, or the re-ask timer starts and the catch-up list is kept (03 R57, log 20). -/
def limitExpiry (n : Node) : Node :=
  match n.w.join.limit with
  | none => n
  | some t =>
    let w := n.w.reach t
    if !w.join.parts.isEmpty then ⟨n.core, reask w⟩
    else if mayFound n.core w then startFounding ⟨n.core, w⟩
    else ⟨n.core, reaskWait w⟩

/-- REASK_TIMER_EXPIRY (03 R53); with a frame of the join producer in the selector, the founding STATUS or an ask, none is added (02 R38, log 20). -/
def reaskExpiry (c : Core) (w : Work) : Work :=
  match w.join.reask with
  | some t => offerAsk c ((w.reach t).onJoin fun j => { j with reask := none })
  | none => w

/-- HEARD_ENTRY_EXPIRY: 3 s after its time (03 R52). -/
def heardExpiry (s : Station) (w : Work) : Work :=
  match w.join.heard.find? fun e => e.1 == s with
  | some (_, t) => (w.reach (t + sec 3)).onJoin fun j => { j with heard := j.heard.filter fun e => e.1 != s }
  | none => w

/-- DETACHED_TIMER_EXPIRY (03 R62): JOINING, by R51. -/
def detachedExpiry (n : Node) : Node :=
  match n.w.join.detached with
  | none => n
  | some t =>
    let c := n.core.move .joining
    ⟨c, enterJoining c (reportStatus c (n.w.reach t))⟩

end Sys2Proof.Machine
end

