-- ==== Sys2Proof/Machine/Notice.lean ====
section
/-! DEFINITION. A picture-changing frame at a node that holds the picture: its application and the change notice to the blocks (01 R6 to R8), and the blocks' standing work. -/

namespace Sys2Proof.Machine

/-! ## Standing work -/

/-- The silence producer's DROP for the first station of the DROP list (02 R45). -/
def silencePoll (c : Core) (w : Work) : Work :=
  match w.store.dropList with
  | s :: _ => if c.inService then offerPic c .silence .plain (.pic (.drop s)) w else w
  | [] => w

/-- The assist producer's frame: the GIVE of ASSIST_OFF, else the TAKE while the mark is set (12 R195). -/
def assistPoll (c : Core) (w : Work) : Work :=
  if !(c.inService && c.isHead) then w
  else if w.con.request = some .assistOff then offerPic c .assist .console (.pic (.give (some .assist))) w
  else if w.assist then offerPic c .assist .plain (.pic (.take (some .assist) 0)) w
  else w

/-- The intercom producer's standing work, with the console told of what it changes (08 R144). -/
def floorStanding (c : Core) (w : Work) : Work := callTold c w.ic c (floorPoll c w)

/-- What the blocks do of their own accord once a step's own effect is made: the journal moves, every producer without a frame offers what it has, the slots are filled. -/
def settle (c : Core) (w : Work) : Work :=
  if c.node.started then
    w |> journalPump c |> hiringPoll c |> cardPoll c |> authPoll c |> floorStanding c |> joinPoll c |> announcePoll c
      |> silencePoll c |> assistPoll c |> shiftPoll c |> callPoll c |> alertPoll c |> meterFeed c |> feedCommand c |> feedBulk c
  else w

/-- The same at a node. -/
def settleNode (n : Node) : Node := ⟨n.core, settle n.core n.w⟩

/-! ## The picture store's own part (01 R11, 02 R44, R45) -/

/-- A pending DROP of the station, not begun, is withdrawn (02 R45). -/
def withdrawDrop (s : Station) (w : Work) : Work :=
  match w.sel.waiting? .silence with
  | some o => if o.frame = .pic (.drop s) then withdrawPic .silence w else w
  | none => w

/-- The silence timers and the DROP list after an application (02 R44, R45). -/
def storeNotice (c : Core) (before : Picture) (src : Station) (f : PicFrame) (w : Work) : Work :=
  match f with
  | .drop s =>
    withdrawDrop s { w with store := { w.store with silence := w.store.silence.filter fun x => x.station != s,
                                                    dropList := w.store.dropList.filter fun x => x != s } }
  | .hello _ =>
    if (before.entry src).isNone && (c.view.entry src).isSome && src != c.me then
      { w with store := { w.store with silence := (w.store.silence.filter fun x => x.station != src) ++ [⟨src, w.now, false⟩] } }
    else w
  | _ => w

/-- What the HEAD, a node strapped HEAD and in service (00 section 6), does at a DROP that removes an entry (01 R11). -/
def headDrop (c : Core) (before : Picture) (s : Station) (w : Work) : Work :=
  match before.entry s with
  | none => w
  | some e =>
    if c.isHead && c.inService then
      let w := raise c { kind := .stationDropped, origin := c.me, value := some s.val } w
      let w := headEvent c (.stationDropped s e.role) w
      let gone := before.hirings.filter fun h => h.tag.home == s && !h.isOrphan
      gone.foldl (fun v h => raise c { kind := .orphanHiring, origin := c.me, tag := some h.tag } v) w
    else w

/-! ## The blocks at a change notice (01 R8) -/

/-- The own frame came from this producer. -/
def ownBy (own : Option Offer) (p : Producer) : Bool :=
  match own with
  | some o => o.isBy p
  | none => false

/-- The purpose of the own frame. -/
def ownPurpose (own : Option Offer) : Purpose :=
  match own with
  | some o => o.purpose
  | none => .plain

/-- The hiring controller: the result of its own frame, then the notice (05 R86 to R104, 04 R79). -/
def hiringBlock (c : Core) (headWas : Bool) (f : PicFrame) (r : PicResult) (own : Option Offer) (w : Work) : Work :=
  let mine := ownBy own .hiring
  let w :=
    if mine then
      match f, ownPurpose own with
      | .hireClose t, .console => orphanResult c t r w
      | _, _ => hiringOwn c f r w
    else w
  hiringNotice c mine headWas w

/-- The meter unit: a HELLO from another station calls for TIME (04 R67). -/
def meterBlock (c : Core) (f : PicFrame) (own : Option Offer) (w : Work) : Work :=
  match f with
  | .hello _ => if own.isNone then offerTime c false w else w
  | _ => w

/-- The card engine (09 R149 to R164). -/
def cardBlock (before : Picture) (c : Core) (f : PicFrame) (r : PicResult) (own : Option Offer) (w : Work) : Work :=
  cardNotice before c (if ownBy own .card then cardOwn c f (ownPurpose own) r w else w)

/-- The intercom unit, with the console told of what changes (08 R135 to R144). -/
def intercomBlock (c0 c : Core) (f : PicFrame) (r : PicResult) (own : Option Offer) (w : Work) : Work :=
  let i := w.ic
  callTold c0 i c (intercomNotice c (if ownBy own .intercom then intercomOwn f r w else w))

/-- ASSIST has become held (07 R116). -/
def assistActive (c : Core) (before : Picture) (w : Work) : Work :=
  if c.inService && before.free .assist then
    match (c.view.claim .assist).holder with
    | some s => raise c { kind := .assistActive, origin := c.me, value := some s.val } w
    | none => w
  else w

/-- The assist port at the result of its own frame (12 R195). -/
def assistOwn (f : PicFrame) (r : PicResult) (w : Work) : Work :=
  match f with
  | .take _ _ => { w with assist := false }
  | _ => answerIf .assistOff (if r = .freed then none else some .wrongState) w

/-- The status producer compares the values sent with the current ones (02 R38); a STATUS that is owed is offered now (03 R61). -/
def statusCompare (c : Core) (f : PicFrame) (w : Work) : Work :=
  match f with
  | .status st =>
    if w.store.statusOwed then statusTold c { w with store := { w.store with statusOwed := false } }
    else if st = statusNow c w then w
    else statusTold c w
  | _ => w

/-- The results that the console waits for, and those of the producers that no other block reads. -/
def ownBlock (c : Core) (f : PicFrame) (r : PicResult) (own : Option Offer) (w : Work) : Work :=
  match own with
  | none => w
  | some o =>
    match o.producer with
    | some .assist => assistOwn f r w
    | some .status => statusCompare c f (announceOwn c f w)
    | some .join => announceOwn c f w
    | some .intercom => floorAnswer f r o.purpose w
    | _ => w

/-- The status producer's frame is begun. -/
def Selector.statusBegun (s : Selector) : Bool := s.has .status && (s.waiting? .status).isNone

/-- A HELLO of this node's number that this node did not send calls for a STATUS (03 R61): with one begun, for another after it. -/
def ownNumberHello (c : Core) (src : Station) (f : PicFrame) (own : Option Offer) (w : Work) : Work :=
  match f, own with
  | .hello _, none =>
    if src = c.me then
      if w.sel.statusBegun then { w with store := { w.store with statusOwed := true } } else statusTold c w
    else w
  | _, _ => w

/-- The change notice, block by block (01 R8, log 6). -/
def notice (c0 c : Core) (src : Station) (f : PicFrame) (r : PicResult) (own : Option Offer) (w : Work) : Work :=
  let before := c0.view
  w |> storeNotice c before src f
    |> hiringBlock c before.headIn f r own
    |> meterBlock c f own
    |> signDerive c
    |> cardBlock before c f r own
    |> intercomBlock c0 c f r own
    |> streamNotice c
    |> shiftNotice c src f r (ownBy own .tally)
    |> assistActive c before
    |> ownBlock c f r own
    |> ownNumberHello c src f own

/-! ## Application (01 R6) -/

/-- A STATUS of this node's number that this node did not send (03 R61). -/
def duplicated (me src : Station) (f : PicFrame) (own : Option Offer) : Bool :=
  match f, own with
  | .status _, none => src == me
  | _, _ => false

/-- The frame has placed a second HEAD in service, and this HEAD has the higher number (03 R61). -/
def outranked (c : Core) (before after : Picture) (src : Station) : Bool :=
  c.isHead && c.inService && after.isHead src && !before.isHead src && after.otherHead c.me true

/-- A completed picture-changing frame at a node that holds the picture; `own`: it is this node's own offer. A node that leaves service by it is told no notice: the console hears what the loss changes from the view before the frame (08 R144). -/
def applyFrame (src : Station) (f : PicFrame) (own : Option Offer) (n : Node) : Node :=
  let c0 := n.core
  let p := c0.view
  let a := p.apply src f
  let c : Core := { c0 with pic := some a.1 }
  let w :=
    match f with
    | .drop s => headDrop c p s n.w
    | _ => n.w
  if f = .drop c.me then leave .joining none ⟨c0, w⟩
  else if duplicated c.me src f own then haltNode .duplicateStation ⟨c0, w⟩
  else if outranked c p a.1 src then haltNode .duplicateHead ⟨c0, w⟩
  else ⟨c, notice c0 c src f a.2 own w⟩

end Sys2Proof.Machine
end

