-- ==== Sys2Proof/Machine/ConsolePort.lean ====
section
/-! DEFINITION. The console port: the requests and the link's own events (12 R191 to R193, with the rules each request names). -/

namespace Sys2Proof.Machine

/-- A result placed at once, with no request in progress. -/
def reply (r : Option Reason) (w : Work) : Work := { w with con := w.con.push (.result r) }

/-- The request is in progress from now on. -/
def begin' (q : Request) (w : Work) : Work := { w with con := { w.con with request := some q } }

/-- The console link is served: at a HEAD, after CONFIG (12 R191). -/
def linkServed (c : Core) : Bool := c.isHead && c.node.started

/-- A request meets the port (12 R192): HALTED answers NOT_IN_SERVICE, one in progress gives BUSY, a node line state that does not take it NOT_IN_SERVICE. -/
def request (takenIn : NodeState → Bool) (go : Core → Work → Work) (c : Core) (w : Work) : Work :=
  if !linkServed c then w
  else if c.node == .halted then reply (some .notInService) w
  else if w.con.request.isSome then answerBusy w
  else if !takenIn c.node then reply (some .notInService) w
  else settle c (go c w)

def inServiceOnly (n : NodeState) : Bool := n == .inService

/-! ## Hiring requests -/

/-- A HIRE_COMMAND waits behind COMMAND (12 R192, 02 R42). -/
def sendHire (s : Station) (cmd : HireCmd) (w : Work) : Work :=
  begin' .hire { w with sel := { w.sel with waitConsole := some (.hireCommand s cmd) } }

/-- The station has a roster entry with role BAY and state IN_SERVICE (12 R192). -/
def bayInService (c : Core) (s : Station) : Bool :=
  match c.view.entry s with
  | some e => e.inServiceAs .bay
  | none => false

/-- The sender check of 05 R88 for a request decided without a frame: this node's own entry has role HEAD and state IN_SERVICE. -/
def ownHead (c : Core) : Bool := c.view.isHead c.me

/-- START_HIRE (12 R192): the HEAD's own hiring controller decides directly, with the reason of R85; a start that fails the sender check only is refused with WRONG_STATE, and raises nothing (05 R88, log 52). -/
def askStart (s : Station) (seats : SeatSet) (mode : Option Mode) (c : Core) (w : Work) : Work :=
  if s = c.me then
    if (startCheck c seats mode w).isNone && !ownHead c then reply (some .wrongState) w
    else
      let r := startHire c seats mode w
      reply r.1 r.2
  else if bayInService c s then sendHire s (.start seats mode) w
  else reply (some .notInService) w

/-- The other hiring requests reach the home station of their tag (12 R192); the HEAD's own hiring is decided by the checks of its HIRE_COMMAND, that of the sender's entry among them (05 R88). -/
def askHire (t : Tag) (cmd : HireCmd) (c : Core) (w : Work) : Work :=
  if t.home = c.me then
    if ownHead c then
      let r := hireCommand c cmd w
      reply (r.1.map fun _ => .wrongState) r.2
    else reply (some .wrongState) w
  else match c.view.hiring t with
    | some h => if h.isOrphan then reply (some .wrongState) w else sendHire t.home cmd w
    | none => if bayInService c t.home then sendHire t.home cmd w else reply (some .noSuchHiring) w

/-- CARD (09 R147). -/
def askCard (t : Tag) (c : Core) (w : Work) : Work :=
  let r := armConsole c t w
  reply r.1 r.2

/-! ## Intercom requests (08) -/

/-- An intercom request with the console told of what it changes (08 R144). -/
def toldCall (f : Work → Work) (c : Core) (w : Work) : Work := callTold c w.ic c (f w)

/-- The announcement of CALL(ALL): a talk press with key held set (08 R135). The floor of a talk that is still ENDING is given back first (log 39); a BUSY of BLOCKED ends with that state (08 R127). -/
def announce (w : Work) : Work :=
  { w with ic :=
    { w.ic with call := .connected, peer := some .all, outgoing := true, keyHeld := true, talk := .asking, talkBusy := none,
                ask := match w.ic.talk with
                  | .ending => .giveBack
                  | .asking => w.ic.ask
                  | _ => .none } }

/-- CALL (08 R128, R135). -/
def askCall (target : Dest) (urgent : Bool) (c : Core) (w : Work) : Work :=
  let open' := w.ic.call == .idle && w.ic.list.isEmpty
  match target with
  | .station s =>
    if open' && c.view.present s .bay then begin' .call (toldCall (placeCall s urgent) c w) else reply (some .wrongState) w
  | .all => if open' then begin' .announce (toldCall announce c w) else reply (some .wrongState) w

/-- TALK_PRESS (08 R135, R137). -/
def askTalk (c : Core) (w : Work) : Work :=
  if w.ic.call == .connected then reply none (if w.ic.announcing then w else toldCall talkPress c w)
  else reply (some .wrongState) w

/-- TALK_RELEASE (08 R137). -/
def askRelease (c : Core) (w : Work) : Work :=
  if w.ic.call == .connected then reply none (toldCall (talkRelease c) c w) else reply (some .wrongState) w

/-- ANSWER (08 R131). -/
def askAnswer (c : Core) (w : Work) : Work :=
  if w.ic.call == .ringingIn then reply none (toldCall answerCall c w) else reply (some .wrongState) w

/-- HANGUP (08 R133, R135); during an announcement it acts as TALK_RELEASE and clears key held too (log 53). -/
def askHangup (c : Core) (w : Work) : Work :=
  if w.ic.call == .idle then reply (some .wrongState) w
  else if w.ic.announcing then reply none (toldCall (talkRelease c) c w)
  else reply none (toldCall (hangUp c) c w)

/-! ## The other requests -/

/-- SHIFT_OPEN (11 R182). -/
def consoleOpen (driver : Nat) (c : Core) (w : Work) : Work :=
  match shiftOpenCheck c driver w with
  | some r => reply (some r) w
  | none => begin' .shiftOpen (askShiftOpen c driver w)

/-- SHIFT_CLOSE (11 R184). -/
def consoleClose (force : Bool) (c : Core) (w : Work) : Work :=
  match shiftCloseCheck c w with
  | some r => reply (some r) w
  | none => begin' .shiftClose (askShiftClose c force w)

/-- SET_TIME (04 R68). -/
def askTime (t : DateTime) (c : Core) (w : Work) : Work :=
  if t.real then begin' .setTime (setClock c t.secs .console w) else reply (some .wrongState) w

/-- CLEAR_ORPHAN (05 R104); the HIRE_CLOSE is the hiring controller's standing work. -/
def askClear (t : Tag) (c : Core) (w : Work) : Work :=
  match c.view.hiring t with
  | none => reply (some .noSuchHiring) w
  | some h => if h.isOrphan then begin' (.clearOrphan t) w else reply (some .wrongState) w

/-- FORCE_CLAIM (08 R140, 09 R164); the GIVE after a SEIZE won is the producer's standing work. -/
def askForce (word : ForceWord) (c : Core) (w : Work) : Work :=
  match word with
  | .floor =>
    if w.ic.talk != .quiet || w.sel.has .intercom then reply (some .wrongState) w
    else offerPic c .intercom .console (.pic (.seize (some .floor) (BitVec.ofNat 16 c.me.val))) (begin' .forceFloor w)
  | .lane =>
    if w.ret.card.txn != .idle || w.card.fwd.busy || w.sel.has .card then reply (some .wrongState) w
    else
      offerPic c .card .console (.pic (.seize (some .lane) 0))
        (begin' .forceLane (w.onCard fun k => { k with force := true }))

/-- ASSIST_OFF (12 R195); the GIVE is the assist producer's standing work. -/
def askAssistOff (_ : Core) (w : Work) : Work := begin' .assistOff { w with assist := false }

/-- STATUS_ASK (12 R192, R193): a HALTED node places the report and answers NOT_IN_SERVICE. -/
def askStatus (c : Core) (w : Work) : Work :=
  if c.node == .halted && linkServed c then reply (some .notInService) (reportStatus c w)
  else request NodeState.started (fun c w => reply none (reportStatus c w)) c w

/-- A message of an unknown kind (12 R191). -/
def unknownRequest (kind : Byte) (c : Core) (w : Work) : Work :=
  if consoleKindKnown kind then w else request NodeState.started (fun _ w => reply (some .wrongState) w) c w

/-- Bytes at the receiver: what fails is discarded there, without an answer (12 R191). -/
def receive (bytes : List Byte) (c : Core) (w : Work) : Work :=
  if linkServed c then { w with con := { w.con with rx := bytes.foldl linkReceive w.con.rx } } else w

/-- A gap of more than 10 ms: a message being received is discarded, and the receiver looks for the next start byte (12 R191). -/
def receiveGap (c : Core) (w : Work) : Work :=
  if linkServed c && !linkGood w.con.rx then { w with con := { w.con with rx := [] } } else w

/-- The message being sent is done, the next of the queue goes out (12 R191). -/
def messageSent (w : Work) : Work := { w with con := Console.pump { w.con with sending := none } }

/-! ## The commands -/

/-- CONSOLE_START_HIRE. -/
def execConsoleStartHire (t : Station) (seats : SeatSet) (mode : Option Mode) (s : State) : Host.Outcome State Fault Refusal :=
  onWork (request inServiceOnly (askStart t seats mode)) s

/-- CONSOLE_STOP. -/
def execConsoleStop (tag : Tag) (s : State) : Host.Outcome State Fault Refusal :=
  onWork (request inServiceOnly (askHire tag (.stop tag))) s

/-- CONSOLE_HOLD. -/
def execConsoleHold (tag : Tag) (s : State) : Host.Outcome State Fault Refusal :=
  onWork (request inServiceOnly (askHire tag (.hold tag))) s

/-- CONSOLE_RESUME. -/
def execConsoleResume (tag : Tag) (s : State) : Host.Outcome State Fault Refusal :=
  onWork (request inServiceOnly (askHire tag (.resume tag))) s

/-- CONSOLE_CANCEL. -/
def execConsoleCancel (tag : Tag) (s : State) : Host.Outcome State Fault Refusal :=
  onWork (request inServiceOnly (askHire tag (.cancel tag))) s

/-- CONSOLE_UNPAID. -/
def execConsoleUnpaid (tag : Tag) (s : State) : Host.Outcome State Fault Refusal :=
  onWork (request inServiceOnly (askHire tag (.unpaid tag))) s

/-- CONSOLE_EXTRA. -/
def execConsoleExtra (tag : Tag) (code : Nat) (s : State) : Host.Outcome State Fault Refusal :=
  onWork (request inServiceOnly (askHire tag (.extra tag code))) s

/-- CONSOLE_CASH. -/
def execConsoleCash (tag : Tag) (amount : Nat) (s : State) : Host.Outcome State Fault Refusal :=
  onWork (request inServiceOnly (askHire tag (.cash tag amount))) s

/-- CONSOLE_CARD. -/
def execConsoleCard (tag : Tag) (s : State) : Host.Outcome State Fault Refusal :=
  onWork (request inServiceOnly (askCard tag)) s

/-- CONSOLE_CALL. -/
def execConsoleCall (target : Dest) (urgent : Bool) (s : State) : Host.Outcome State Fault Refusal :=
  onWork (request NodeState.serving (askCall target urgent)) s

/-- CONSOLE_TALK_PRESS. -/
def execConsoleTalkPress (s : State) : Host.Outcome State Fault Refusal := onWork (request NodeState.serving askTalk) s

/-- CONSOLE_TALK_RELEASE. -/
def execConsoleTalkRelease (s : State) : Host.Outcome State Fault Refusal :=
  onWork (request NodeState.serving askRelease) s

/-- CONSOLE_ANSWER. -/
def execConsoleAnswer (s : State) : Host.Outcome State Fault Refusal := onWork (request NodeState.serving askAnswer) s

/-- CONSOLE_HANGUP. -/
def execConsoleHangup (s : State) : Host.Outcome State Fault Refusal := onWork (request NodeState.serving askHangup) s

/-- CONSOLE_SHIFT_OPEN. -/
def execConsoleShiftOpen (driver : Nat) (s : State) : Host.Outcome State Fault Refusal :=
  onWork (request inServiceOnly (consoleOpen driver)) s

/-- CONSOLE_SHIFT_CLOSE. -/
def execConsoleShiftClose (force : Bool) (s : State) : Host.Outcome State Fault Refusal :=
  onWork (request inServiceOnly (consoleClose force)) s

/-- CONSOLE_SET_TIME. -/
def execConsoleSetTime (t : DateTime) (s : State) : Host.Outcome State Fault Refusal :=
  onWork (request inServiceOnly (askTime t)) s

/-- CONSOLE_CLEAR_ORPHAN. -/
def execConsoleClearOrphan (tag : Tag) (s : State) : Host.Outcome State Fault Refusal :=
  onWork (request inServiceOnly (askClear tag)) s

/-- CONSOLE_FORCE_CLAIM. -/
def execConsoleForceClaim (word : ForceWord) (s : State) : Host.Outcome State Fault Refusal :=
  onWork (request inServiceOnly (askForce word)) s

/-- CONSOLE_ASSIST_OFF. -/
def execConsoleAssistOff (s : State) : Host.Outcome State Fault Refusal :=
  onWork (request inServiceOnly askAssistOff) s

/-- CONSOLE_STATUS_ASK. -/
def execConsoleStatusAsk (s : State) : Host.Outcome State Fault Refusal := onWork askStatus s

/-- CONSOLE_UNKNOWN_REQUEST. -/
def execConsoleUnknownRequest (kind : Byte) (s : State) : Host.Outcome State Fault Refusal :=
  onWork (unknownRequest kind) s

/-- CONSOLE_MESSAGE_DISCARD (12 R191): the bytes come in, and the message that fails is discarded. -/
def execConsoleMessageDiscard (bytes : List Byte) (s : State) : Host.Outcome State Fault Refusal :=
  onWork (receive bytes) s

/-- CONSOLE_BYTE_GAP_EXPIRY (12 R191): the bytes come in, then the gap. -/
def execConsoleByteGapExpiry (bytes : List Byte) (s : State) : Host.Outcome State Fault Refusal :=
  onWork (fun c w => receiveGap c (receive bytes c w)) s

/-- CONSOLE_MESSAGE_SENT. -/
def execConsoleMessageSent (s : State) : Host.Outcome State Fault Refusal := onWork (fun _ => messageSent) s

end Sys2Proof.Machine
end

