-- ==== Sys2Proof/Machine/Line.lean ====
section
/-! DEFINITION. The line interface and the transmit selector's outcomes (02 R24 to R46), with their commands. -/

namespace Sys2Proof.Machine

/-! ## Rank (02 R28) -/

/-- (sender - last winner - 1) mod 16. -/
def position (me last : Station) : Nat := (me.val + 31 - last.val) % 16

/-- The rank of a frame (02 R28). -/
def rank (me last : Station) (f : Frame) : Nat := f.cls * 16 + position me last

/-- The states in which the line is contended for, marked and read for frames (02 R35). -/
def NodeState.onLine (n : NodeState) : Bool := n.serving || n.joining?

/-! ## Outcomes (02 R32, R37) -/

/-- The console's reason for a hiring request by the outcome of its HIRE_COMMAND (12 R192). -/
def hireResult : FrameResult → Option Reason
  | .taken => none
  | .applied => none
  | .refused => some .wrongState
  | .noAnswer => some .noAnswer
  | .abandoned a => some a.reason

/-- The outcome of a frame whose attempt was under way when the node left service (02 R35): what still follows from it. -/
def leavingOutcome (c : Core) (o : Offer) (r : FrameResult) (w : Work) : Work :=
  match o.frame with
  | .hireCommand _ _ => answerIf .hire (hireResult r) w
  | .call _ _ => if o.purpose = .console then answerIf .call (callResult r) w else w
  | .time _ => if o.purpose = .console then answerIf .setTime (hireResult r) w else w
  | .forward _ e => forwardSettled c e r w
  | .alert _ _ _ lost => alertOutcome r lost w
  | .tally n _ => tallyOutcome n r w
  | .distance n _ =>
    match r with
    | .abandoned _ => w.onMeter fun m => { m with accumulator := m.accumulator + n }
    | _ => w
  | .fareReport _ _ => fareOutcome c r w
  | _ => w

/-- A picture frame of this node has been ABANDONED (02 R37). -/
def picAbandoned (f : PicFrame) (o : Offer) (a : Abandon) (n : Node) : Node :=
  let c := n.core
  let w := n.w
  match o.producer with
  | some .hiring => ⟨c, hiringAbandoned c f o.purpose a w⟩
  | some .intercom => ⟨c, intercomAbandoned c f o.purpose a w⟩
  | some .card => ⟨c, forwardCheck c (cardAbandoned c f o.purpose a w)⟩
  | some .status =>
    let overdue := match w.store.presence with
      | some t => decide (sec 2 ≤ w.now - t)
      | none => false
    ⟨c, if overdue && !w.store.statusOwed then statusTold c w else statusCompare c f w⟩
  | some .tally => ⟨c, shiftAbandoned f a w⟩
  | some .join => joinAbandoned (.pic f) n
  | some .assist => ⟨c, if o.purpose = .console then answerIf .assistOff (some a.reason) w else w⟩
  | _ => n

/-- The outcome of a frame of the METER, COMMAND, CALL, CARD, ALERT, VOICE or BULK slot at its source. -/
def workOutcome (c : Core) (o : Offer) (r : FrameResult) (w : Work) : Work :=
  match o.frame with
  | .distance n running =>
    match r with
    | .abandoned a => meterAbandoned o.frame o.purpose a w
    | _ => takeDistance c c.me n running w
  | .time _ =>
    match r with
    | .abandoned a => meterAbandoned o.frame o.purpose a w
    | _ => if o.purpose = .console then answerIf .setTime none w else w
  | .hireCommand _ _ => answerIf .hire (hireResult r) w
  | .closeReady d n _ => readyOutcome c d n r w
  | .call d f =>
    let w := callTold c w.ic c (callOutcome c d f r w)
    if o.purpose = .console then answerIf .call (callResult r) w else w
  | .authRequest _ q => forwardCheck c (authOutcome c q.seq r w)
  | .alert _ _ _ lost => alertOutcome r lost w
  | .voice _ _ => voiceOutcome c w
  | .snapshot d p => snapshotOutcome c d p r w
  | .tally n _ => tallyOutcome n r w
  | .forward _ e => forwardCheck c (forwardOutcome c e r w)
  | .journalRecord _ _ _ _ => streamOutcome r w
  | .journalEnd _ _ _ _ _ => streamOutcome r w
  | .fareReport _ _ => fareOutcome c r w
  | _ => w

/-- The outcome returns to the source of a frame that has left its place (02 R37). -/
def returned (o : Offer) (r : FrameResult) (n : Node) : Node :=
  if o.leaving then ⟨n.core, leavingOutcome n.core o r n.w⟩
  else if o.dead then n
  else match o.frame, r with
    | .pic f, .abandoned a => picAbandoned f o a n
    | .pic f, _ => if n.core.serving then applyFrame n.core.me f (some o) n else joinDone o.frame n
    | .snapshotAsk, .abandoned _ => joinAbandoned o.frame n
    | .snapshotAsk, _ => joinDone o.frame n
    | _, _ => ⟨n.core, workOutcome n.core o r n.w⟩

/-- The slot becomes free, and the FIFO's front moves into a free PICTURE slot (02 R37, R38). -/
def freeSlot (k : SlotId) (w : Work) : Work := { w with sel := (w.sel.set k none).advance, line := w.line.dropHand k }

/-- The frame whose attempt is under way. -/
def Work.onAir (w : Work) : Option (SlotId × Offer) :=
  match w.line.inHand with
  | some k => if w.line.sending then (w.sel.get k).map fun o => (k, o) else none
  | none => none

/-- The attempt is over: the line is busy until its next idle point. -/
def attemptOver (w : Work) : Work :=
  { w with line := { w.line with sending := false, collided := false, inHand := none, round := false } }

/-- The attempt drew OBJECT or collided (02 R33, R34, R35). -/
def failAttempt (n : Node) : Node :=
  match n.w.onAir with
  | none => n
  | some (k, o) =>
    let w := attemptOver n.w
    if o.leaving then settleNode (returned o (.abandoned .notInService) ⟨n.core, freeSlot k w⟩)
    else if 8 ≤ o.attempts then
      let n := returned o (.abandoned .lineFail) ⟨n.core, freeSlot k w⟩
      settleNode ⟨n.core, raiseLineFail n.core o.frame n.w⟩
    else if o.expired then settleNode (returned o (.abandoned .lineBusy) ⟨n.core, freeSlot k w⟩)
    else ⟨n.core, w⟩

/-- What an unobjected reply window says (02 R32, log 17). -/
def resultOf (d : Dest) (m : Marks) : FrameResult :=
  match d with
  | .all => .applied
  | .station _ => if m.taken then .taken else if m.refused then .refused else .noAnswer

/-- This node's frame completes on the line: the last winner, the presence timer, the free slot (02 R32, R37, R43). -/
def ownComplete (k : SlotId) (c : Core) (w : Work) : Work :=
  let w := freeSlot k (attemptOver w)
  { w with
    line := { w.line with lastWinner := c.me }
    store := { w.store with presence := if c.serving then some w.now else w.store.presence } }

/-- FRAME_OUTCOME (02 R32, R37): an objected window is a failed attempt; a collision has no window (02 R29). -/
def frameOutcome (m : Marks) (n : Node) : Node :=
  match n.w.onAir with
  | none => n
  | some (k, o) =>
    if n.w.line.collided then n
    else if m.object then failAttempt n
    else settleNode (returned o (resultOf o.frame.dest m) ⟨n.core, ownComplete k n.core n.w⟩)

/-! ## Frames of other stations (02 R25, R28, R44 to R46) -/

/-- The station is heard: its silence timer restarts, it leaves the DROP list, a pending DROP of it is withdrawn (02 R44, R45). -/
def heardFrom (src : Station) (w : Work) : Work :=
  withdrawDrop src
    { w with store :=
      { w.store with
        silence := w.store.silence.map fun x => if x.station = src then { x with since := w.now, fired := false } else x
        dropList := w.store.dropList.filter fun x => x != src } }

/-- A completed frame of another station, before its owner takes it: the last winner, the line busy, no mark yet; judged good, and its sender heard (02 R28, R44, R46). -/
def completed (src : Station) (n : Node) : Node :=
  let c := n.core
  if c.node.started then
    let w := { n.w with line := { n.w.line with lastWinner := src, round := false, mark := none } }
    let w := if c.node.onLine then { w with line := { w.line with objections := 0 } } else w
    ⟨c, if c.serving then heardFrom src w else w⟩
  else n

/-- The mark of an addressee (02 R31). -/
def marked (m : Mark) (w : Work) : Work := { w with line := { w.line with mark := some m } }

/-- The frame on the line is this one of this node's own (log 5). -/
def Node.sends (n : Node) (src : Station) (f : Frame) : Bool :=
  src == n.core.me &&
    match n.w.onAir with
    | some (_, o) => o.frame == f
    | none => false

/-- A window without a mark. -/
def Marks.none : Marks := ⟨false, false, false⟩

/-- A completed broadcast: this node's own, or another station's after the line's part. -/
def broadcast (src : Station) (f : Frame) (take : Node → Node) (n : Node) : Node :=
  if n.sends src f then frameOutcome Marks.none n else settleNode (take (completed src n))

/-- A completed addressed frame: the addressee's owner decides the mark at a node that holds the picture (02 R31). -/
def addressed (src dst : Station) (take : Core → Work → Option Work) (n : Node) : Node :=
  let n := completed src n
  if dst = n.core.me ∧ n.core.serving = true then
    settleNode ⟨n.core, match take n.core n.w with
      | some w => marked .taken w
      | none => marked .refused n.w⟩
  else settleNode n

/-- The same for an owner that may act on a frame it refuses. -/
def decided (src dst : Station) (take : Core → Work → Bool × Work) (n : Node) : Node :=
  let n := completed src n
  if dst = n.core.me ∧ n.core.serving = true then
    let r := take n.core n.w
    settleNode ⟨n.core, marked (if r.1 then .taken else .refused) r.2⟩
  else settleNode n

/-! ## The line's own events -/

/-- LINE_IDLE (02 R24). -/
def lineIdle (c : Core) (w : Work) : Work :=
  if c.node.started then { w with line := { w.line with round := true, mark := none } } else w

/-- CONTENTION_ROUND_START (02 R36). -/
def roundStart (c : Core) (w : Work) : Work :=
  if c.node.onLine && w.line.round && !w.line.sending then { w with line := { w.line with inHand := w.sel.choose } } else w

/-- The fields that are written afresh at each attempt (03 R54). -/
def Frame.atAttempt (c : Core) : Frame → Frame
  | .snapshot d p => .snapshot d { p with line := c.view.seq }
  | f => f

/-- ATTEMPT_START (02 R27): a start mark in an earlier slot is a deferral. -/
def attemptStart (first : Option Nat) (c : Core) (w : Work) : Work :=
  if !(c.node.onLine && w.line.round) || w.line.sending then w
  else
    let defer := { w with line := { w.line with inHand := none, round := false } }
    match w.line.inHand with
    | none => if first.isSome then defer else w
    | some k =>
      match w.sel.get k with
      | none => w
      | some o =>
        let lost := match first with
          | some m => decide (m < rank c.me w.line.lastWinner o.frame)
          | none => false
        if lost then defer
        else
          { w with
            sel := w.sel.set k (some { o with attempts := o.attempts + 1, frame := Frame.atAttempt c o.frame })
            line := { w.line with sending := true, collided := false, round := false } }

/-- FRAME_SOURCE_READ (02 R28 to R30): a frame is on the line, so no round runs (02 R24). -/
def sourceRead (source complement : BitVec 4) (readBackBad : Bool) (c : Core) (w : Work) : Work :=
  if !c.node.started then w
  else if complement != ~~~ source || (w.line.sending && readBackBad) then
    { w with line :=
      { w.line with lastWinner := 15, collided := w.line.collided || w.line.sending, round := false } }
  else { w with line := { w.line with lastWinner := source.toFin, round := false } }

/-- The objection run count after an objection; the eighth detaches the node (02 R46). -/
def objected (n : Node) : Node :=
  let w := { n.w with line := { n.w.line with mark := some .object, objections := n.w.line.objections + 1 } }
  if 8 ≤ w.line.objections then leave .detached none ⟨n.core, w⟩ else ⟨n.core, w⟩

/-- FRAME_JUDGED_FAILED (02 R25, R29, R31, R46). Given a frame that this node judges good, which a well-formed command never does, it stands for a frame that another station objects to: the count returns to 0 and nothing is marked or handed to a block (log 64). -/
def judgedFailed (f : RawFrame) (ranOn : Bool) (n : Node) : Node :=
  if !n.core.node.started || n.w.line.sending then n
  else
    let last : Station := if f.agrees then f.source.toFin else 15
    let n : Node := ⟨n.core, { n.w with line := { n.w.line with lastWinner := last, round := false, mark := none } }⟩
    if !n.core.node.onLine then n
    else if (f.agrees && !f.good) || (!f.agrees && ranOn) then settleNode (objected n)
    else if f.agrees then ⟨n.core, { n.w with line := { n.w.line with objections := 0 } }⟩
    else n

/-- LINE_WAIT_LIMIT_EXPIRY (02 R34). -/
def waitExpiry (p : Waiting) (n : Node) : Node :=
  match p with
  | .slot k =>
    match n.w.sel.get k with
    | none => n
    | some o =>
      let w := n.w.reach (o.offeredAt + waitLimit o.frame.cls)
      if w.line.sending && w.line.inHand == some k then
        ⟨n.core, { w with sel := w.sel.set k (some { o with expired := true }) }⟩
      else settleNode (returned o (.abandoned .lineBusy) ⟨n.core, freeSlot k w⟩)
  | .fifo p =>
    match n.w.sel.fifo.find? fun o => o.isBy p with
    | none => n
    | some o =>
      let w := n.w.reach (o.offeredAt + waitLimit o.frame.cls)
      let w := { w with sel := { w.sel with fifo := w.sel.fifo.filter fun o => !o.isBy p } }
      settleNode (returned o (.abandoned .lineBusy) ⟨n.core, w⟩)

/-- PRESENCE_TIMER_EXPIRY (02 R43). -/
def presenceExpiry (c : Core) (w : Work) : Work :=
  match w.store.presence with
  | none => w
  | some t =>
    let w := w.reach (t + sec 2)
    if w.sel.has .status then w else statusTold c w

/-- SILENCE_TIMER_EXPIRY (02 R44, R45). -/
def silenceExpiry (s : Station) (c : Core) (w : Work) : Work :=
  match w.store.silence.find? fun x => x.station == s && !x.fired with
  | none => w
  | some x =>
    let w := w.reach (x.since + sec 6)
    settle c { w with store :=
      { w.store with
        silence := w.store.silence.map fun y => if y.station = s then { y with fired := true } else y
        dropList := if w.store.dropList.contains s then w.store.dropList else w.store.dropList ++ [s] } }

/-! ## The commands -/

/-- LINE_IDLE. -/
def execLineIdle (s : State) : Host.Outcome State Fault Refusal := onWork lineIdle s

/-- CONTENTION_ROUND_START. -/
def execContentionRoundStart (s : State) : Host.Outcome State Fault Refusal := onWork roundStart s

/-- ATTEMPT_START. -/
def execAttemptStart (firstMark : Option Nat) (s : State) : Host.Outcome State Fault Refusal :=
  onWork (attemptStart firstMark) s

/-- FRAME_SOURCE_READ. -/
def execFrameSourceRead (source complement : BitVec 4) (readBackBad : Bool) (s : State) :
    Host.Outcome State Fault Refusal :=
  onWork (sourceRead source complement readBackBad) s

/-- FRAME_JUDGED_FAILED. -/
def execFrameJudgedFailed (f : RawFrame) (ranOn : Bool) (s : State) : Host.Outcome State Fault Refusal :=
  onNode (judgedFailed f ranOn) s

/-- ATTEMPT_FAILED. -/
def execAttemptFailed (s : State) : Host.Outcome State Fault Refusal := onNode failAttempt s

/-- FRAME_OUTCOME. -/
def execFrameOutcome (m : Marks) (s : State) : Host.Outcome State Fault Refusal := onNode (frameOutcome m) s

/-- LINE_WAIT_LIMIT_EXPIRY. -/
def execLineWaitLimitExpiry (p : Waiting) (s : State) : Host.Outcome State Fault Refusal := onNode (waitExpiry p) s

/-- A good frame that no other row takes (02 R25, log 37): it counts for the last winner and the silence timer; a HIRE_COMMAND with an unknown command word is marked REFUSED by its addressee (05 R88), no other is marked. -/
def discarded (src : Station) (cls kind dest : Nat) (n : Node) : Node :=
  let n := completed src n
  if commandFrame cls kind dest && dest == n.core.me.val && n.core.serving then settleNode ⟨n.core, marked .refused n.w⟩
  else settleNode n

/-- UNKNOWN_FRAME (02 R25, R26, R44, 05 R88). -/
def execUnknownFrame (src : Station) (cls kind dest : Nat) (s : State) : Host.Outcome State Fault Refusal :=
  onNode (discarded src cls kind dest) s

/-- PRESENCE_TIMER_EXPIRY. -/
def execPresenceTimerExpiry (s : State) : Host.Outcome State Fault Refusal := onWork presenceExpiry s

/-- SILENCE_TIMER_EXPIRY. -/
def execSilenceTimerExpiry (t : Station) (s : State) : Host.Outcome State Fault Refusal := onWork (silenceExpiry t) s

end Sys2Proof.Machine
end

