-- ==== Sys2Proof/Machine/Frames.lean ====
section
/-! DEFINITION. The completed frames as commands: picture-changing frames (01, 03 R52, R61), the frames of the join (03), of the hiring, the meter, the alerts, the intercom, the card, the journal and the tally. -/

namespace Sys2Proof.Machine

/-! ## Picture-changing frames -/

/-- What a picture-changing frame is to the heard set (03 R52): HELLO with its role. -/
def hearPic (src : Station) (f : PicFrame) (w : Work) : Work :=
  match f with
  | .hello h => hear src h.role w
  | .status st => if st.state = some .inService then witness w else w
  | _ => w

/-- The frame ends a founding that is not begun (03 R57). -/
def endsFounding (me src : Station) : PicFrame → Bool
  | .hello _ => decide (src < me)
  | .status st => st.state == some .inService
  | _ => false

/-- The frame shows a second station of this node's number (03 R52). -/
def isDuplicate (me src : Station) : PicFrame → Bool
  | .hello _ => src == me
  | .status _ => src == me
  | _ => false

/-- A picture-changing frame of another station at a JOINING or FOUNDING node (03 R52, R57). -/
def joiningPic (src : Station) (f : PicFrame) (n : Node) : Node :=
  let me := n.core.me
  if isDuplicate me src f then haltNode .duplicateStation n
  else
    let n : Node := ⟨n.core, catchUp src f (hearPic src f n.w)⟩
    if foundingWaits n && endsFounding me src f then unfound n else n

/-- A picture-changing frame of another station, by the node line state (02 R35). -/
def otherPic (src : Station) (f : PicFrame) (n : Node) : Node :=
  if n.core.serving then applyFrame src f none n
  else if n.core.node.joining? then joiningPic src f n
  else n

/-- A completed picture-changing frame (01 R6). -/
def picFrame (src : Station) (f : PicFrame) (n : Node) : Node := broadcast src (.pic f) (otherPic src f) n

/-- HELLO (01 R9, 03 R52, R61). -/
def execHello (src : Station) (h : HelloPay) (s : State) : Host.Outcome State Fault Refusal :=
  onNode (picFrame src (.hello h)) s

/-- STATUS (01 R10, 03 R52, R59, R61). -/
def execStatus (src : Station) (st : StatusPay) (s : State) : Host.Outcome State Fault Refusal :=
  onNode (picFrame src (.status st)) s

/-- DROP (01 R11, 02 R45, 03 R62). -/
def execDrop (src t : Station) (s : State) : Host.Outcome State Fault Refusal := onNode (picFrame src (.drop t)) s

/-- TAKE (01 R12). -/
def execTake (src : Station) (word : Option WordId) (tag : BitVec 16) (s : State) : Host.Outcome State Fault Refusal :=
  onNode (picFrame src (.take word tag)) s

/-- TAKE_SET (01 R13). -/
def execTakeSet (src : Station) (seats : SeatSet) (tag : Tag) (s : State) : Host.Outcome State Fault Refusal :=
  onNode (picFrame src (.takeSet seats tag)) s

/-- GIVE (01 R14). -/
def execGive (src : Station) (word : Option WordId) (s : State) : Host.Outcome State Fault Refusal :=
  onNode (picFrame src (.give word)) s

/-- SEIZE (01 R15). -/
def execSeize (src : Station) (word : Option WordId) (tag : BitVec 16) (s : State) : Host.Outcome State Fault Refusal :=
  onNode (picFrame src (.seize word tag)) s

/-- SHIFT_OPEN (01 R16, 11 R183). -/
def execShiftOpen (src : Station) (number driver : Nat) (opened : Stamp) (s : State) : Host.Outcome State Fault Refusal :=
  onNode (picFrame src (.shiftOpen number driver opened)) s

/-- CLOSE_CALL (01 R17, 11 R184, R185). -/
def execCloseCall (src : Station) (number : Nat) (force : Bool) (s : State) : Host.Outcome State Fault Refusal :=
  onNode (picFrame src (.closeCall number force)) s

/-- CLOSE_COMMIT (01 R19, 11 R187, R189). -/
def execCloseCommit (src : Station) (number : Nat) (force : Bool) (s : State) : Host.Outcome State Fault Refusal :=
  onNode (picFrame src (.closeCommit number force)) s

/-- CLOSE_ABANDON (01 R18, 11 R186). -/
def execCloseAbandon (src : Station) (s : State) : Host.Outcome State Fault Refusal :=
  onNode (picFrame src .closeAbandon) s

/-- HIRE_OPEN (01 R20). -/
def execHireOpen (src : Station) (tag : Tag) (mode : Option Mode) (seats : SeatSet) (start : Stamp) (s : State) :
    Host.Outcome State Fault Refusal :=
  onNode (picFrame src (.hireOpen tag mode seats start)) s

/-- HIRE_STATE (01 R21). -/
def execHireState (src : Station) (tag : Tag) (st : Option HireState) (s : State) : Host.Outcome State Fault Refusal :=
  onNode (picFrame src (.hireState tag st)) s

/-- HIRE_CLOSE (01 R22). -/
def execHireClose (src : Station) (tag : Tag) (s : State) : Host.Outcome State Fault Refusal :=
  onNode (picFrame src (.hireClose tag)) s

/-- HIRE_RECLAIM (01 R23). -/
def execHireReclaim (src : Station) (tag : Tag) (st : Option HireState) (mode : Option Mode) (seats : SeatSet) (start : Stamp) (s : State) :
    Host.Outcome State Fault Refusal :=
  onNode (picFrame src (.hireReclaim tag st mode seats start)) s

/-! ## SNAPSHOT_ASK and SNAPSHOT (03 R52 to R57) -/

/-- SNAPSHOT_ASK of another station (03 R52, R54, R57). -/
def otherAsk (src : Station) (n : Node) : Node :=
  if n.core.serving then ⟨n.core, takeAsk n.core src n.w⟩
  else if n.core.node.joining? && src != n.core.me then
    let n : Node := ⟨n.core, hear src none n.w⟩
    if foundingWaits n && decide (src < n.core.me) then unfound n else n
  else n

/-- SNAPSHOT_ASK. -/
def execSnapshotAsk (src : Station) (s : State) : Host.Outcome State Fault Refusal :=
  onNode (broadcast src .snapshotAsk (otherAsk src)) s

/-- A SNAPSHOT at a JOINING or FOUNDING node (03 R52, R55, R57, 02 R31): its addressee marks TAKEN. -/
def joiningSnapshot (src dst : Station) (p : SnapPart) (n : Node) : Node :=
  let toMe := dst == n.core.me
  let w := witness n.w
  let n : Node := ⟨n.core, if toMe then marked .taken w else w⟩
  if foundingWaits n then unfound n
  else if toMe && n.core.node == .joining then takePart src p n
  else n

/-- SNAPSHOT: a node that holds the picture has no snapshot to take and refuses one addressed to it. -/
def execSnapshot (src dst : Station) (p : SnapPart) (s : State) : Host.Outcome State Fault Refusal :=
  onNode (fun n =>
    if n.core.node.joining? then settleNode (joiningSnapshot src dst p (completed src n))
    else addressed src dst (fun _ _ => none) n) s

/-! ## Shift frames outside the picture (11) -/

/-- CLOSE_READY (11 R186). -/
def execCloseReady (src dst : Station) (shift : Nat) (r : Readiness) (s : State) : Host.Outcome State Fault Refusal :=
  onNode (addressed src dst fun c w => takeReady c src shift r w) s

/-- TALLY of another station (11 R188). -/
def otherTally (src : Station) (shift : Nat) (t : TallyVals) (n : Node) : Node :=
  if n.core.serving then ⟨n.core, takeTally n.core src shift t n.w⟩ else n

/-- TALLY. -/
def execTally (src : Station) (shift : Nat) (t : TallyVals) (s : State) : Host.Outcome State Fault Refusal :=
  onNode (broadcast src (.tally shift t) (otherTally src shift t)) s

/-! ## HIRE_COMMAND (05 R88) -/

/-- A HIRE_COMMAND at its addressee (05 R88): taken, or refused with what a refused start raises (05 R85). -/
def takeHire (src : Station) (cmd : HireCmd) (c : Core) (w : Work) : Bool × Work :=
  if commandHeard c cmd src then
    let r := hireCommand c cmd w
    (r.1.isNone, r.2)
  else (false, w)

/-- HIRE_COMMAND START (05 R85). -/
def execHireCommandStart (src dst : Station) (seats : SeatSet) (mode : Option Mode) (s : State) :
    Host.Outcome State Fault Refusal :=
  onNode (decided src dst (takeHire src (.start seats mode))) s

/-- HIRE_COMMAND STOP (05 R92). -/
def execHireCommandStop (src dst : Station) (tag : Tag) (s : State) : Host.Outcome State Fault Refusal :=
  onNode (decided src dst (takeHire src (.stop tag))) s

/-- HIRE_COMMAND HOLD (05 R90). -/
def execHireCommandHold (src dst : Station) (tag : Tag) (s : State) : Host.Outcome State Fault Refusal :=
  onNode (decided src dst (takeHire src (.hold tag))) s

/-- HIRE_COMMAND RESUME (05 R90). -/
def execHireCommandResume (src dst : Station) (tag : Tag) (s : State) : Host.Outcome State Fault Refusal :=
  onNode (decided src dst (takeHire src (.resume tag))) s

/-- HIRE_COMMAND CANCEL (05 R96). -/
def execHireCommandCancel (src dst : Station) (tag : Tag) (s : State) : Host.Outcome State Fault Refusal :=
  onNode (decided src dst (takeHire src (.cancel tag))) s

/-- HIRE_COMMAND EXTRA (04 R78). -/
def execHireCommandExtra (src dst : Station) (tag : Tag) (code : Nat) (s : State) : Host.Outcome State Fault Refusal :=
  onNode (decided src dst (takeHire src (.extra tag code))) s

/-- HIRE_COMMAND CASH (05 R93). -/
def execHireCommandCash (src dst : Station) (tag : Tag) (amount : Nat) (s : State) : Host.Outcome State Fault Refusal :=
  onNode (decided src dst (takeHire src (.cash tag amount))) s

/-- HIRE_COMMAND UNPAID (05 R95). -/
def execHireCommandUnpaid (src dst : Station) (tag : Tag) (s : State) : Host.Outcome State Fault Refusal :=
  onNode (decided src dst (takeHire src (.unpaid tag))) s

/-! ## Meter frames (04 R69, R72) and fare reports (04 R82) -/

/-- DISTANCE (04 R72). -/
def execDistance (src : Station) (n : Nat) (running : BitVec 16) (s : State) : Host.Outcome State Fault Refusal :=
  onNode (broadcast src (.distance n running) fun x => ⟨x.core, takeDistance x.core src n running x.w⟩) s

/-- TIME (04 R69). -/
def execTime (src : Station) (t : Nat) (s : State) : Host.Outcome State Fault Refusal :=
  onNode (broadcast src (.time t) fun x => ⟨x.core, takeTime x.core src t x.w⟩) s

/-- FARE_REPORT (04 R82). -/
def execFareReport (src dst : Station) (r : FareRep) (s : State) : Host.Outcome State Fault Refusal :=
  onNode (addressed src dst fun c w => if c.isHead then some (report c (.fare src r) w) else none) s

/-! ## ALERT (07 R120) -/

/-- An ALERT at its addressee (07 R120). -/
def takeAlert (src : Station) (cls : AlertClass) (a : Option AlertRec) (lost : Nat) (c : Core) (w : Work) : Option Work :=
  if alertTaken c src a then a.map fun x => receiveAlert c cls x lost w else none

/-- ALERT. -/
def execAlert (src dst : Station) (cls : AlertClass) (a : Option AlertRec) (lost : Nat) (s : State) :
    Host.Outcome State Fault Refusal :=
  onNode (addressed src dst (takeAlert src cls a lost)) s

/-! ## Intercom frames (08) -/

/-- A call frame at its addressee, the console told of what it changes (08 R144). -/
def callFrame (take : Core → Work → Option Work) (c : Core) (w : Work) : Option Work :=
  (take c w).map fun v => callTold c w.ic c v

/-- CALL (08 R129). -/
def execCall (src dst : Station) (urgent : Bool) (s : State) : Host.Outcome State Fault Refusal :=
  onNode (addressed src dst (callFrame fun c w => takeCall c src urgent w)) s

/-- CALL_ANSWER (08 R131). -/
def execCallAnswer (src dst : Station) (s : State) : Host.Outcome State Fault Refusal :=
  onNode (addressed src dst (callFrame fun c w => takeAnswer c src w)) s

/-- CALL_HELD (08 R130). -/
def execCallHeld (src dst : Station) (s : State) : Host.Outcome State Fault Refusal :=
  onNode (addressed src dst (callFrame fun c w => takeHeld c src w)) s

/-- CALL_RESUMED (08 R130). -/
def execCallResumed (src dst : Station) (s : State) : Host.Outcome State Fault Refusal :=
  onNode (addressed src dst (callFrame fun c w => takeResumed c src w)) s

/-- CALL_END (08 R133). -/
def execCallEnd (src dst : Station) (r : EndReason) (s : State) : Host.Outcome State Fault Refusal :=
  onNode (addressed src dst (callFrame fun c w => takeEnd c src r w)) s

/-- An accepted VOICE joins the jitter queue (08 R141, R142). -/
def takeVoice (src : Station) (samples : List Byte) (c : Core) (w : Work) : Option Work :=
  if voiceAccepted c src samples w then some { w with ic := w.ic.join src samples } else none

/-- VOICE (08 R141): addressed it is marked, broadcast it is accepted or discarded. -/
def execVoice (src : Station) (dst : Dest) (samples : List Byte) (s : State) : Host.Outcome State Fault Refusal :=
  match dst with
  | .station d => onNode (addressed src d (takeVoice src samples)) s
  | .all =>
    onNode (broadcast src (.voice .all samples) fun n => ⟨n.core, (takeVoice src samples n.core n.w).getD n.w⟩) s

/-! ## AUTH_REPLY (09 R152, R157) -/

/-- AUTH_REPLY. -/
def execAuthReply (src dst : Station) (r : AuthRep) (s : State) : Host.Outcome State Fault Refusal :=
  onNode (decided src dst fun c w => authReply c src r w) s

/-! ## Journal frames (10 R174, R177) -/

/-- A JOURNAL_READ at its addressee (10 R174): none is REFUSED, as for a half field that names neither half (log 57). -/
def takeRead (src : Station) (h : Option Half) (c : Core) (w : Work) : Option Work :=
  h.bind fun h => if readTaken c src h w then some (startStream src h w) else none

/-- JOURNAL_READ (10 R174). -/
def execJournalRead (src dst : Station) (h : Option Half) (s : State) : Host.Outcome State Fault Refusal :=
  onNode (addressed src dst (takeRead src h)) s

/-- A JOURNAL_RELEASE at its addressee (10 R177): none is REFUSED, as for a half field that names neither half (log 57). -/
def takeRelease (src : Station) (h : Option Half) (c : Core) (w : Work) : Option Work :=
  h.bind fun h => if releaseTaken c src h w then some (releaseHalf c h w) else none

/-- JOURNAL_RELEASE (10 R177). -/
def execJournalRelease (src dst : Station) (h : Option Half) (s : State) : Host.Outcome State Fault Refusal :=
  onNode (addressed src dst (takeRelease src h)) s

end Sys2Proof.Machine
end

