-- ==== Sys2Proof/Machine/Ports.lean ====
section
/-! DEFINITION. Reset and start (03 R47 to R50), the bay keys (12 R194), the assist switch, the card link, the odometer, the codec, and the timers. -/

namespace Sys2Proof.Machine

/-! ## Reset and start (03 R47 to R50) -/

/-- A node in RESET (03 R47): everything but the retained area is lost; at a BAY the clock too (04 R69). A cut update leaves the check invalid (03 R49). -/
def resetNode (cause : ResetCause) (cutShort : Bool) (n : Node) : Node :=
  let c := n.core
  let r := n.w.ret
  let r : Retained := { r with valid := r.valid && !cutShort, clock := if c.isHead then r.clock else none }
  ⟨{ c with node := .reset, halt := none, cfg := Cfg.blank, digest := 0, pic := none,
            standby := c.standby && cause != .standbyLost },
    Work.fresh n.w.now n.w.free r⟩

/-- A half found STREAMING becomes READY with its streamed mark clear (10 R178). -/
def HalfRing.warm (h : HalfRing) : HalfRing := if h.state == .streaming then { h with state := .ready, streamed := none } else h

def Journal.warm (j : Journal) : Journal := { j with halfA := j.halfA.warm, halfB := j.halfB.warm }

/-- The retained area as the start finds it or clears it (03 R49); only a HEAD's clock is retained (04 R67, R69). -/
def Retained.start (r : Retained) (warm head : Bool) : Retained :=
  if warm then { r with journal := r.journal.warm, clock := if head then r.clock else none } else Retained.cold

/-- The lamp test begins (06 R111). -/
def beginTest (c : Core) (w : Work) : Work :=
  if c.straps.sign then signOutputs c { w with sign := { w.sign with test := some (w.now + sec 2) } } else w

/-- RESET_END: CONFIG, then JOINING or HALTED (03 R47 to R50). What the retained state gives, the FARE report of a suspended slot and CARD_INDETERMINATE, comes before the report STATUS of the end of CONFIG (log 48). -/
def startNode (straps : Straps) (memory : Option (List Byte)) (keys : Keys) (n : Node) : Node :=
  if n.core.node != .reset then n
  else
    let w0 (r : Retained) : Work :=
      { Work.fresh n.w.now n.w.free r with keys := keys, meter := { Meter.init with secondAt := n.w.now } }
    match decodeConfig memory with
    | none =>
      let c : Core := { n.core with node := .halted, halt := some .configFault, straps := straps }
      ⟨c, reportStatus c (w0 n.w.ret)⟩
    | some cfg =>
      let warm := n.w.ret.valid && n.core.standby
      let c : Core :=
        { node := .joining, halt := none, straps := straps, cfg := cfg, digest := configDigest (memory.getD []) cfg,
          standby := true, pic := none }
      let w := w0 (n.w.ret.start warm c.isHead)
      ⟨c, w |> hiringSuspend c |> cardWarm c |> tellReader .idle |> beginTest c |> reportStatus c |> enterJoining c
            |> settle c⟩

/-- RESET. -/
def execReset (cause : ResetCause) (cutShort : Bool) (s : State) : Host.Outcome State Fault Refusal :=
  onNode (resetNode cause cutShort) s

/-- RESET_END. -/
def execResetEnd (straps : Straps) (memory : Option (List Byte)) (keys : Keys) (s : State) :
    Host.Outcome State Fault Refusal :=
  onNode (startNode straps memory keys) s

/-! ## The bay keys (12 R194) -/

/-- The panel is served: at a BAY, after CONFIG. -/
def panelServed (c : Core) : Bool := c.isBay && c.node.started

/-- A key event: what the port sees, and on a fresh press what its owner does. `was` and `put` are the key's mark. -/
def keyEvent (was : Keys → Bool) (put : Keys → Keys) (down : Bool) (press : Core → Work → Work) (c : Core) (w : Work) : Work :=
  if !panelServed c then w
  else
    let fresh := down && !was w.keys
    let w := { w with keys := put w.keys }
    if fresh then settle c (press c w) else w

/-- The CALL key (08 R128, R131, R133, R136). -/
def callKey (c : Core) (w : Work) : Work :=
  if !c.serving then w
  else match w.ic.call with
    | .idle =>
      match c.view.lowest .head with
      | none => { w with ic := w.ic.playBusy (w.now + sec 2) }
      | some h => if w.ic.list.isEmpty then placeCall h false w else w
    | .ringingIn => answerCall w
    | .connected => if w.ic.announce then w else hangUp c w
    | _ => hangUp c w

/-- The TALK key pressed (08 R131, R136, R137): nothing during an announcement; else, but for the answering press, key held is set in any call state (log 53). -/
def talkKey (c : Core) (w : Work) : Work :=
  if !c.serving || w.ic.announce then w
  else if w.ic.call == .ringingIn then answerCall w
  else talkPress w

/-- The TALK key released (08 R137), during an announcement too (08 R136, log 53). -/
def talkKeyUp (c : Core) (w : Work) : Work :=
  if !panelServed c then w
  else
    let was := w.keys.talk
    let w := { w with keys := { w.keys with talk := false } }
    if was && c.serving then settle c (talkRelease c w) else w

/-- The PAY key (05 R89, R92, 09 R147). -/
def payKey (c : Core) (w : Work) : Work :=
  let s := w.ret.slot
  if !c.inService then w
  else if s.open? then
    enterPaying c (raise c { kind := .payRequested, origin := c.me, tag := some s.tag, value := some s.totalDue } w)
  else if s.isPaying then armKey c w
  else w

/-- The QUIET key (07 R123). -/
def quietKey (c : Core) (w : Work) : Work :=
  maskUpdate c { w with alerts := { w.alerts with quietKey := !w.alerts.quietKey } }

/-- The START key (05 R85, R89). -/
def startKey (c : Core) (w : Work) : Work :=
  if c.inService && c.cfg.passengerStart then (startHire c c.cfg.seatMask (some .shared) w).2 else w

/-- KEY_CALL. -/
def execKeyCall (down : Bool) (s : State) : Host.Outcome State Fault Refusal :=
  onWork (keyEvent (fun k => k.call) (fun k => { k with call := down }) down callKey) s

/-- KEY_TALK_PRESS. -/
def execKeyTalkPress (s : State) : Host.Outcome State Fault Refusal :=
  onWork (keyEvent (fun k => k.talk) (fun k => { k with talk := true }) true talkKey) s

/-- KEY_TALK_RELEASE. -/
def execKeyTalkRelease (s : State) : Host.Outcome State Fault Refusal := onWork talkKeyUp s

/-- KEY_PAY. -/
def execKeyPay (down : Bool) (s : State) : Host.Outcome State Fault Refusal :=
  onWork (keyEvent (fun k => k.pay) (fun k => { k with pay := down }) down payKey) s

/-- KEY_QUIET. -/
def execKeyQuiet (down : Bool) (s : State) : Host.Outcome State Fault Refusal :=
  onWork (keyEvent (fun k => k.quiet) (fun k => { k with quiet := down }) down quietKey) s

/-- KEY_START. -/
def execKeyStart (down : Bool) (s : State) : Host.Outcome State Fault Refusal :=
  onWork (keyEvent (fun k => k.start) (fun k => { k with start := down }) down startKey) s

/-! ## Assist switch, odometer, one-second timer, standby clock -/

/-- ASSIST_SWITCH_CLOSE (12 R195). -/
def assistClose (c : Core) (w : Work) : Work :=
  if c.isHead && c.node.started then settle c { w with assist := true } else w

def execAssistSwitchClose (s : State) : Host.Outcome State Fault Refusal := onWork assistClose s

/-- ODOMETER_PULSE (12 R196, 04 R71, 02 R40). -/
def execOdometerPulse (low held : Nat) (s : State) : Host.Outcome State Fault Refusal :=
  onWork (fun c w => odometer c low held w) s

/-- ONE_SECOND_TICK (04 R67, R70, R74, R75, 05 R105, 04 R81). -/
def execOneSecondTick (occupied1 occupied2 : Bool) (s : State) : Host.Outcome State Fault Refusal :=
  onWork (fun c w => settle c (secondTick c occupied1 occupied2 w)) s

/-- STANDBY_CLOCK_ADVANCE (04 R67). -/
def execStandbyClockAdvance (s : State) : Host.Outcome State Fault Refusal := onWork standbyClock s

/-! ## The card link and the card engine's timers (09 R146 to R159) -/

/-- CARD_PRESENTED (09 R148). -/
def execCardPresented (d : CardRead) (s : State) : Host.Outcome State Fault Refusal :=
  onWork (fun c w => settle c (cardPresented c d w)) s

/-- CARD_REMOVED (09 R155). -/
def execCardRemoved (s : State) : Host.Outcome State Fault Refusal := onWork (fun c w => settle c (cardRemoved c w)) s

/-- READER_FAULT (09 R156). -/
def execReaderFault (s : State) : Host.Outcome State Fault Refusal :=
  onWork (fun c w => if c.node.started then settle c (readerFault c w) else w) s

/-- CARD_LINK_DISCARD (12 R196): the message does not reach the card engine. -/
def execCardLinkDiscard (_bytes : List Byte) (s : State) : Host.Outcome State Fault Refusal := onWork (fun _ w => w) s

/-- ARM_LIMIT_EXPIRY (09 R147). -/
def execArmLimitExpiry (s : State) : Host.Outcome State Fault Refusal := onWork (fun c w => settle c (armLimit c w)) s

/-- LANE_LIMIT_EXPIRY (09 R149). -/
def execLaneLimitExpiry (s : State) : Host.Outcome State Fault Refusal := onWork (fun c w => settle c (laneLimit c w)) s

/-- LANE_RETRY_EXPIRY (09 R149). -/
def execLaneRetryExpiry (s : State) : Host.Outcome State Fault Refusal := onWork (fun c w => settle c (laneRetry w)) s

/-- REPLY_LIMIT_EXPIRY (09 R153). -/
def execReplyLimitExpiry (s : State) : Host.Outcome State Fault Refusal := onWork (fun c w => settle c (replyLimit c w)) s

/-- RESULT_HOLD_EXPIRY (09 R155). -/
def execResultHoldExpiry (s : State) : Host.Outcome State Fault Refusal := onWork (fun c w => settle c (resultHold c w)) s

/-- FORWARD_RETRY_EXPIRY (09 R159). -/
def execForwardRetryExpiry (s : State) : Host.Outcome State Fault Refusal :=
  onWork (fun c w => settle c (forwardRetry c w)) s

/-! ## The intercom's timers and codec (08) -/

/-- A step of the intercom, with the console told of what it changes (08 R144) and the standing work after it. -/
def icStep (f : Core → Work → Work) (c : Core) (w : Work) : Work := settle c (callTold c w.ic c (f c w))

/-- RING_LIMIT_EXPIRY (08 R132). -/
def execRingLimitExpiry (s : State) : Host.Outcome State Fault Refusal := onWork (icStep ringLimit) s

/-- TALK_LIMIT_EXPIRY (08 R137). -/
def execTalkLimitExpiry (s : State) : Host.Outcome State Fault Refusal := onWork (icStep talkLimit) s

/-- TONE_TIMER_EXPIRY (08 R127). -/
def execToneTimerExpiry (s : State) : Host.Outcome State Fault Refusal := onWork (icStep fun _ => toneTimer) s

/-- VOICE_SAMPLE (08 R139). -/
def execVoiceSample (sample : Byte) (s : State) : Host.Outcome State Fault Refusal :=
  onWork (fun c w => takeSample c sample w) s

/-- The 32nd sample (08 R139). -/
def lastSample (sample : Byte) (c : Core) (w : Work) : Work := if w.ic.filling.length = 31 then takeSample c sample w else w

/-- VOICE_FRAME_COMPLETE. -/
def execVoiceFrameComplete (sample : Byte) (s : State) : Host.Outcome State Fault Refusal := onWork (lastSample sample) s

/-- The end of a frame's 4 ms (08 R142, R136). -/
def playoutEnd (c : Core) (w : Work) : Work :=
  if w.ic.playing.isSome then annLeave c { w with ic := w.ic.frameEnd } else w

/-- PLAYOUT_FRAME_END. -/
def execPlayoutFrameEnd (s : State) : Host.Outcome State Fault Refusal := onWork (icStep playoutEnd) s

/-! ## The bay alert line, the close, the journal -/

/-- ALERT_SHOW_EXPIRY (07 R126). -/
def showExpiry (w : Work) : Work :=
  match w.alerts.showing with
  | some (_, t) =>
    let w := w.reach t
    { w with alerts := Alerts.showNext { w.alerts with showing := none } w.now }
  | none => w

def execAlertShowExpiry (s : State) : Host.Outcome State Fault Refusal := onWork (fun _ => showExpiry) s

/-- CLOSE_ANSWER_LIMIT_EXPIRY (11 R186). -/
def execCloseAnswerLimitExpiry (s : State) : Host.Outcome State Fault Refusal :=
  onWork (fun c w => settle c (answerLimit c w)) s

/-- TALLY_COLLECT_LIMIT_EXPIRY (11 R189). -/
def execTallyCollectLimitExpiry (s : State) : Host.Outcome State Fault Refusal :=
  onWork (fun c w => settle c (collectLimit c w)) s

/-- TALLY_RETRY_WINDOW_EXPIRY (11 R187). -/
def execTallyRetryWindowExpiry (s : State) : Host.Outcome State Fault Refusal := onWork (fun _ => tallyWindow) s

/-- RECORD_INTAKE_ACCEPT (10 R167). -/
def execRecordIntakeAccept (p : RecProducer) (s : State) : Host.Outcome State Fault Refusal :=
  onWork (fun c w => match acceptFrom c p w with
    | some v => settle c v
    | none => w) s

/-- RING_RECORD_MOVE (10 R170). -/
def execRingRecordMove (s : State) : Host.Outcome State Fault Refusal :=
  onWork (fun c w => match moveOne c w with
    | some v => settle c v
    | none => w) s

/-! ## The join's timers (03) -/

/-- DETACHED_TIMER_EXPIRY (03 R62). -/
def execDetachedTimerExpiry (s : State) : Host.Outcome State Fault Refusal :=
  onNode (fun n => settleNode (detachedExpiry n)) s

/-- LISTEN_TIMER_EXPIRY (03 R51). -/
def execListenTimerExpiry (s : State) : Host.Outcome State Fault Refusal := onWork listenExpiry s

/-- SNAPSHOT_LIMIT_EXPIRY (03 R53, R57). -/
def execSnapshotLimitExpiry (s : State) : Host.Outcome State Fault Refusal := onNode limitExpiry s

/-- REASK_TIMER_EXPIRY (03 R53). -/
def execReaskTimerExpiry (s : State) : Host.Outcome State Fault Refusal := onWork reaskExpiry s

/-- HEARD_ENTRY_EXPIRY (03 R52). -/
def execHeardEntryExpiry (t : Station) (s : State) : Host.Outcome State Fault Refusal :=
  onWork (fun _ => heardExpiry t) s

end Sys2Proof.Machine
end

