-- ==== Sys2Proof/Machine/Dispatch.lean ====
section
/-! DEFINITION. Which meaning each command has. -/

namespace Sys2Proof.Machine

def exec (i : Instr) (s : State) : Host.Outcome State Fault Refusal :=
  match i with
  | .reset cause cutShort => Sys2Proof.Machine.execReset cause cutShort s
  | .resetEnd straps memory keys => Sys2Proof.Machine.execResetEnd straps memory keys s
  | .lampTestEnd => Sys2Proof.Machine.execLampTestEnd s
  | .lineIdle => Sys2Proof.Machine.execLineIdle s
  | .contentionRoundStart => Sys2Proof.Machine.execContentionRoundStart s
  | .attemptStart firstMark => Sys2Proof.Machine.execAttemptStart firstMark s
  | .frameSourceRead source complement readBackBad => Sys2Proof.Machine.execFrameSourceRead source complement readBackBad s
  | .frameJudgedFailed f ranOn => Sys2Proof.Machine.execFrameJudgedFailed f ranOn s
  | .attemptFailed => Sys2Proof.Machine.execAttemptFailed s
  | .frameOutcome m => Sys2Proof.Machine.execFrameOutcome m s
  | .lineWaitLimitExpiry w => Sys2Proof.Machine.execLineWaitLimitExpiry w s
  | .unknownFrame src cls kind dest => Sys2Proof.Machine.execUnknownFrame src cls kind dest s
  | .hello src h => Sys2Proof.Machine.execHello src h s
  | .status src st => Sys2Proof.Machine.execStatus src st s
  | .drop src t => Sys2Proof.Machine.execDrop src t s
  | .take src word tag => Sys2Proof.Machine.execTake src word tag s
  | .takeSet src seats tag => Sys2Proof.Machine.execTakeSet src seats tag s
  | .give src word => Sys2Proof.Machine.execGive src word s
  | .seize src word tag => Sys2Proof.Machine.execSeize src word tag s
  | .shiftOpen src number driver opened => Sys2Proof.Machine.execShiftOpen src number driver opened s
  | .closeCall src number force => Sys2Proof.Machine.execCloseCall src number force s
  | .closeCommit src number force => Sys2Proof.Machine.execCloseCommit src number force s
  | .closeAbandon src => Sys2Proof.Machine.execCloseAbandon src s
  | .hireOpen src tag mode seats start => Sys2Proof.Machine.execHireOpen src tag mode seats start s
  | .hireState src tag st => Sys2Proof.Machine.execHireState src tag st s
  | .hireClose src tag => Sys2Proof.Machine.execHireClose src tag s
  | .hireReclaim src tag st mode seats start => Sys2Proof.Machine.execHireReclaim src tag st mode seats start s
  | .snapshotAsk src => Sys2Proof.Machine.execSnapshotAsk src s
  | .snapshot src dst p => Sys2Proof.Machine.execSnapshot src dst p s
  | .closeReady src dst shift r => Sys2Proof.Machine.execCloseReady src dst shift r s
  | .hireCommandStart src dst seats mode => Sys2Proof.Machine.execHireCommandStart src dst seats mode s
  | .hireCommandStop src dst tag => Sys2Proof.Machine.execHireCommandStop src dst tag s
  | .hireCommandHold src dst tag => Sys2Proof.Machine.execHireCommandHold src dst tag s
  | .hireCommandResume src dst tag => Sys2Proof.Machine.execHireCommandResume src dst tag s
  | .hireCommandCancel src dst tag => Sys2Proof.Machine.execHireCommandCancel src dst tag s
  | .hireCommandExtra src dst tag code => Sys2Proof.Machine.execHireCommandExtra src dst tag code s
  | .hireCommandCash src dst tag amount => Sys2Proof.Machine.execHireCommandCash src dst tag amount s
  | .hireCommandUnpaid src dst tag => Sys2Proof.Machine.execHireCommandUnpaid src dst tag s
  | .distance src n running => Sys2Proof.Machine.execDistance src n running s
  | .time src t => Sys2Proof.Machine.execTime src t s
  | .fareReport src dst r => Sys2Proof.Machine.execFareReport src dst r s
  | .alert src dst cls a lost => Sys2Proof.Machine.execAlert src dst cls a lost s
  | .call src dst urgent => Sys2Proof.Machine.execCall src dst urgent s
  | .callAnswer src dst => Sys2Proof.Machine.execCallAnswer src dst s
  | .callHeld src dst => Sys2Proof.Machine.execCallHeld src dst s
  | .callResumed src dst => Sys2Proof.Machine.execCallResumed src dst s
  | .callEnd src dst r => Sys2Proof.Machine.execCallEnd src dst r s
  | .voice src dst samples => Sys2Proof.Machine.execVoice src dst samples s
  | .authReply src dst r => Sys2Proof.Machine.execAuthReply src dst r s
  | .journalRead src dst h => Sys2Proof.Machine.execJournalRead src dst h s
  | .journalRelease src dst h => Sys2Proof.Machine.execJournalRelease src dst h s
  | .tally src shift t => Sys2Proof.Machine.execTally src shift t s
  | .presenceTimerExpiry => Sys2Proof.Machine.execPresenceTimerExpiry s
  | .silenceTimerExpiry t => Sys2Proof.Machine.execSilenceTimerExpiry t s
  | .detachedTimerExpiry => Sys2Proof.Machine.execDetachedTimerExpiry s
  | .listenTimerExpiry => Sys2Proof.Machine.execListenTimerExpiry s
  | .snapshotLimitExpiry => Sys2Proof.Machine.execSnapshotLimitExpiry s
  | .reaskTimerExpiry => Sys2Proof.Machine.execReaskTimerExpiry s
  | .heardEntryExpiry t => Sys2Proof.Machine.execHeardEntryExpiry t s
  | .oneSecondTick occupied1 occupied2 => Sys2Proof.Machine.execOneSecondTick occupied1 occupied2 s
  | .assistFlashPhase => Sys2Proof.Machine.execAssistFlashPhase s
  | .lampDarkTimeLimit l => Sys2Proof.Machine.execLampDarkTimeLimit l s
  | .lampCurrentSense l current => Sys2Proof.Machine.execLampCurrentSense l current s
  | .odometerPulse low held => Sys2Proof.Machine.execOdometerPulse low held s
  | .assistSwitchClose => Sys2Proof.Machine.execAssistSwitchClose s
  | .keyCall down => Sys2Proof.Machine.execKeyCall down s
  | .keyTalkPress => Sys2Proof.Machine.execKeyTalkPress s
  | .keyTalkRelease => Sys2Proof.Machine.execKeyTalkRelease s
  | .keyPay down => Sys2Proof.Machine.execKeyPay down s
  | .keyQuiet down => Sys2Proof.Machine.execKeyQuiet down s
  | .keyStart down => Sys2Proof.Machine.execKeyStart down s
  | .cardPresented c => Sys2Proof.Machine.execCardPresented c s
  | .cardRemoved => Sys2Proof.Machine.execCardRemoved s
  | .readerFault => Sys2Proof.Machine.execReaderFault s
  | .cardLinkDiscard bytes => Sys2Proof.Machine.execCardLinkDiscard bytes s
  | .armLimitExpiry => Sys2Proof.Machine.execArmLimitExpiry s
  | .laneLimitExpiry => Sys2Proof.Machine.execLaneLimitExpiry s
  | .laneRetryExpiry => Sys2Proof.Machine.execLaneRetryExpiry s
  | .replyLimitExpiry => Sys2Proof.Machine.execReplyLimitExpiry s
  | .resultHoldExpiry => Sys2Proof.Machine.execResultHoldExpiry s
  | .forwardRetryExpiry => Sys2Proof.Machine.execForwardRetryExpiry s
  | .ringLimitExpiry => Sys2Proof.Machine.execRingLimitExpiry s
  | .talkLimitExpiry => Sys2Proof.Machine.execTalkLimitExpiry s
  | .toneTimerExpiry => Sys2Proof.Machine.execToneTimerExpiry s
  | .voiceFrameComplete sample => Sys2Proof.Machine.execVoiceFrameComplete sample s
  | .playoutFrameEnd => Sys2Proof.Machine.execPlayoutFrameEnd s
  | .alertShowExpiry => Sys2Proof.Machine.execAlertShowExpiry s
  | .closeAnswerLimitExpiry => Sys2Proof.Machine.execCloseAnswerLimitExpiry s
  | .tallyCollectLimitExpiry => Sys2Proof.Machine.execTallyCollectLimitExpiry s
  | .tallyRetryWindowExpiry => Sys2Proof.Machine.execTallyRetryWindowExpiry s
  | .recordIntakeAccept p => Sys2Proof.Machine.execRecordIntakeAccept p s
  | .ringRecordMove => Sys2Proof.Machine.execRingRecordMove s
  | .consoleStartHire t seats mode => Sys2Proof.Machine.execConsoleStartHire t seats mode s
  | .consoleStop tag => Sys2Proof.Machine.execConsoleStop tag s
  | .consoleHold tag => Sys2Proof.Machine.execConsoleHold tag s
  | .consoleResume tag => Sys2Proof.Machine.execConsoleResume tag s
  | .consoleCancel tag => Sys2Proof.Machine.execConsoleCancel tag s
  | .consoleUnpaid tag => Sys2Proof.Machine.execConsoleUnpaid tag s
  | .consoleExtra tag code => Sys2Proof.Machine.execConsoleExtra tag code s
  | .consoleCash tag amount => Sys2Proof.Machine.execConsoleCash tag amount s
  | .consoleCard tag => Sys2Proof.Machine.execConsoleCard tag s
  | .consoleCall target urgent => Sys2Proof.Machine.execConsoleCall target urgent s
  | .consoleTalkPress => Sys2Proof.Machine.execConsoleTalkPress s
  | .consoleTalkRelease => Sys2Proof.Machine.execConsoleTalkRelease s
  | .consoleAnswer => Sys2Proof.Machine.execConsoleAnswer s
  | .consoleHangup => Sys2Proof.Machine.execConsoleHangup s
  | .consoleShiftOpen driver => Sys2Proof.Machine.execConsoleShiftOpen driver s
  | .consoleShiftClose force => Sys2Proof.Machine.execConsoleShiftClose force s
  | .consoleSetTime t => Sys2Proof.Machine.execConsoleSetTime t s
  | .consoleClearOrphan tag => Sys2Proof.Machine.execConsoleClearOrphan tag s
  | .consoleForceClaim word => Sys2Proof.Machine.execConsoleForceClaim word s
  | .consoleAssistOff => Sys2Proof.Machine.execConsoleAssistOff s
  | .consoleStatusAsk => Sys2Proof.Machine.execConsoleStatusAsk s
  | .consoleUnknownRequest kind => Sys2Proof.Machine.execConsoleUnknownRequest kind s
  | .consoleMessageDiscard bytes => Sys2Proof.Machine.execConsoleMessageDiscard bytes s
  | .consoleByteGapExpiry bytes => Sys2Proof.Machine.execConsoleByteGapExpiry bytes s
  | .consoleMessageSent => Sys2Proof.Machine.execConsoleMessageSent s
  | .voiceSample sample => Sys2Proof.Machine.execVoiceSample sample s
  | .standbyClockAdvance => Sys2Proof.Machine.execStandbyClockAdvance s

end Sys2Proof.Machine
end

