-- ==== Sys2Proof/Safety.lean ====
section
/-! DEFINITION. What stays true of the node: the invariant of the core, and that of the ring; and the pieces of a node's work that a frame speaks of. -/

namespace Sys2Proof.Machine

/-- The node holds a picture exactly in IN_SERVICE and LISTENER, the picture keeps the laws of its rosters and claim words, and a halt reason stands exactly in HALTED (01 R1 to R4, 03 R63). -/
def Core.ok (c : Core) : Bool :=
  c.pic.isSome == c.node.serving &&
    (match c.pic with
     | some p => p.lawful
     | none => true) &&
    c.halt.isSome == (c.node == .halted)

/-- The invariant of the core. -/
def State.ok (s : State) : Bool := s.node.core.ok

/-- A half holds at most 128 records, none while FREE, and is not full while FILLING (10 R169, R170). -/
def HalfRing.ok (h : HalfRing) : Bool :=
  decide (h.recs.length ≤ 128) &&
    match h.state with
    | .free => h.recs.isEmpty
    | .filling => decide (h.recs.length < 128)
    | _ => true

/-- The write position is just after the last record of a FILLING half and at the first position of any other; the half it is not in is not FILLING; the intake holds at most 4 records (10 R167, R169, R170). -/
def Journal.ok (j : Journal) : Bool :=
  let h := halfOf j.writePos
  j.halfA.ok && j.halfB.ok && decide (j.writePos < 256) && decide (j.intake.length ≤ 4) &&
    (match (j.half h).state with
     | .filling => j.writePos == h.first + (j.half h).recs.length
     | _ => j.writePos == h.first) &&
    (j.half h.other).state != .filling

/-- The ring keeps its law, and a running stream is of a half that is STREAMING (10 R169, R174). -/
def State.ringOk (s : State) : Bool :=
  s.node.w.ret.journal.ok &&
    match s.node.w.stream with
    | some x => (s.node.w.ret.journal.half x.half).state == .streaming
    | none => true

/-! ## Frames: what a command leaves as it is -/

/-- The result that a message is, if it is one; DONE is `none`. -/
def ConsoleMsg.result? : ConsoleMsg → Option (Option Reason)
  | .result r => some r
  | .report _ => none

/-- The results the console is still to be sent, oldest first: the one going out and those in the queue. -/
def Console.results (k : Console) : List (Option Reason) := (k.sending.toList ++ k.queue).filterMap ConsoleMsg.result?

/-- No standing work moves the slot: it is FREE, or its step waits for a frame's result, for a command or for a join. -/
def SlotState.stands : SlotState → Bool
  | .starting .opening => false
  | .starting .returning => false
  | .closing .record => false
  | .closing .releasing => false
  | .resuming .returning _ => false
  | _ => true

/-- No record waits on its way to the ring, and the slot stands: the standing work that ends a step moves neither. -/
def Work.atRest (w : Work) : Bool :=
  w.ret.journal.intake.isEmpty && w.ret.journal.headHold.isEmpty && w.ret.card.hold.isEmpty && w.ret.tally.hold.isEmpty &&
    w.ret.slot.state.stands

/-- The pieces of a node's work, as the frame of a command names them. -/
inductive Piece where
  | now
  | clock
  | meter
  | slot
  | card
  | records
  | shift
  | line
  | store
  | join
  | sign
  | alerts
  | call
  | stream
  | ports
  | console
  deriving DecidableEq, Repr

/-- A piece is the same, but for what the standing work that ends every step may do to it: it chooses and places frames, and takes waiting records to the ring, closing or freeing a slot that does not stand. -/
def Piece.same (w v : Work) : Piece → Prop
  | .now => v.now = w.now
  | .clock => v.ret.clock = w.ret.clock ∧ v.ret.valid = w.ret.valid ∧ v.free = w.free
  | .meter =>
    { v.meter with accumulator := 0, timeWaiting := none } = { w.meter with accumulator := 0, timeWaiting := none } ∧
      v.ret.running = w.ret.running ∧ v.ret.lastRunning = w.ret.lastRunning
  | .slot =>
    v.ret.lastSeq = w.ret.lastSeq ∧ (w.ret.slot.state.stands = true → v.ret.slot = w.ret.slot ∧ v.hire = w.hire)
  | .card =>
    { v.ret.card with hold := [] } = { w.ret.card with hold := [] } ∧
      { v.card with fwd := .none, laneAsk := .none, authWaiting := none } =
        { w.card with fwd := .none, laneAsk := .none, authWaiting := none }
  | .records =>
    w.atRest = true → v.ret.journal = w.ret.journal ∧ v.ret.card.hold = w.ret.card.hold ∧ v.ret.tally.hold = w.ret.tally.hold ∧
      v.ret.tally.tally = w.ret.tally.tally
  | .shift => v.shift = w.shift ∧ v.ret.tally.copy = w.ret.tally.copy ∧ v.ret.tally.counter = w.ret.tally.counter
  | .line => { v.line with inHand := none } = { w.line with inHand := none }
  | .store => v.store = w.store
  | .join => v.join = w.join
  | .sign => v.sign = w.sign
  | .alerts =>
    w.atRest = true → { v.alerts with queue := [], lost := 0 } = { w.alerts with queue := [], lost := 0 }
  | .call =>
    w.ret.slot.state.stands = true → w.ic.talk ≠ .asking → { v.ic with handed := false } = { w.ic with handed := false }
  | .stream => v.stream = w.stream
  | .ports => v.keys = w.keys ∧ v.assist = w.assist
  | .console => v.con.request = w.con.request ∧ v.con.rx = w.con.rx ∧ v.con.results = w.con.results

/-- Every piece but those listed is the same. -/
def Untouched (but : List Piece) (w v : Work) : Prop := ∀ p, p ∉ but → p.same w v

end Sys2Proof.Machine
end

