-- ==== Sys2Proof/Certificates/Slice0/Obligations.lean ====
section
/-! DEFINITION. The statements for the provers, with the words they are said in. -/

namespace Sys2Proof.Machine

/-! ## Words of the statements -/

/-- The command answers with a next state that keeps the queue and of whose node `P` holds. -/
def Answers (i : Instr) (s : State) (P : Node → Prop) : Prop :=
  ∃ t, exec i s = .next t ∧ t.pending = s.pending ∧ P t.node

/-- The command that a picture-changing frame of a station is. -/
def frameCommand (src : Station) : PicFrame → Instr
  | .hello h => .hello src h
  | .status st => .status src st
  | .drop s => .drop src s
  | .take w t => .take src w t
  | .takeSet m t => .takeSet src m t
  | .give w => .give src w
  | .seize w t => .seize src w t
  | .shiftOpen n d o => .shiftOpen src n d o
  | .closeCall n f => .closeCall src n f
  | .closeCommit n f => .closeCommit src n f
  | .closeAbandon => .closeAbandon src
  | .hireOpen t m q o => .hireOpen src t m q o
  | .hireState t st => .hireState src t st
  | .hireClose t => .hireClose src t
  | .hireReclaim t st m q o => .hireReclaim src t st m q o

/-- The command that a hiring command relayed from a station to another is. -/
def hireFrame (src dst : Station) : HireCmd → Instr
  | .start q m => .hireCommandStart src dst q m
  | .stop t => .hireCommandStop src dst t
  | .hold t => .hireCommandHold src dst t
  | .resume t => .hireCommandResume src dst t
  | .cancel t => .hireCommandCancel src dst t
  | .unpaid t => .hireCommandUnpaid src dst t
  | .extra t c => .hireCommandExtra src dst t c
  | .cash t a => .hireCommandCash src dst t a

/-- The frame is not the one this node is sending, does not make it leave service, and places no second HEAD that outranks it. -/
def MeetsAsHolder (src : Station) (f : PicFrame) (n : Node) : Prop :=
  n.core.serving = true ∧ n.sends src (.pic f) = false ∧ f ≠ .drop n.core.me ∧
    (∀ st, f = .status st → src ≠ n.core.me) ∧
    outranked n.core n.core.view (n.core.view.apply src f).1 src = false

/-- The frame may move the roster, or the holder of LANE, and no shift. -/
def MovesRosterOrLane (f : PicFrame) : Prop :=
  (∃ x, f = .drop x) ∨ (∃ h, f = .hello h) ∨ (∃ st, f = .status st) ∨ (∃ w, f = .give w) ∨ ∃ w t, f = .seize w t

/-- The frame whose attempt is under way, met by nothing that voids its outcome. -/
def OnAir (n : Node) (k : SlotId) (o : Offer) : Prop :=
  n.w.onAir = some (k, o) ∧ n.w.line.collided = false ∧ o.leaving = false ∧ o.dead = false

/-- The table of 06 R107 in its order: whether the row's condition holds, with the sign state and the seat digit it gives. -/
def signTable (c : Core) : List (Bool × SignState × Option Nat) :=
  let p := c.view
  let seats := (allSeats.filter fun i => (p.claim (.seat i)).holder.isNone).length
  [(c.node != .inService, .suspended, none),
   ((p.claim .shift).holder.isNone, .offDuty, none),
   ((p.claim .close).holder.isSome, .offDuty, none),
   (!(p.roster.any fun e => e.role == .head && e.state == .inService) || p.roster.any fun e => e.lockout, .suspended, none),
   (p.hirings.any fun h => h.mode == .solo, .hired, none),
   (p.hirings.isEmpty, .forHire, none),
   (decide (p.hirings.length < 4) && decide (0 < seats), .share, some seats),
   (true, .hired, none)]

/-- The station has role HEAD and is IN_SERVICE (01 R2). -/
def InServiceHead (p : Picture) (s : Station) : Prop :=
  ∃ e, p.entry s = some e ∧ e.role = .head ∧ e.state = .inService

/-- Who may take which claim word with which tag, by the table of 01 R3 and the ranges of R12. -/
def MayTake (p : Picture) (s : Station) (w : WordId) (tag : BitVec 16) : Prop :=
  match w with
  | .floor => (∃ e, p.entry s = some e ∧ (e.role = .head ∨ e.role = .bay) ∧ (e.state = .inService ∨ e.state = .listener)) ∧
      tag.toNat ≤ 16
  | .lane => ∃ e, p.entry s = some e ∧ (e.role = .head ∨ e.role = .bay) ∧ e.state = .inService
  | .drain => (∃ e, p.entry s = some e ∧ (e.role = .gateway ∨ e.role = .depot) ∧ e.state = .inService) ∧ tag.toNat = s.val
  | .assist => InServiceHead p s ∧ tag = 0
  | _ => False

/-- The nine checks of 01 R20 in their order: number, whether it passes, reason when it fails. A set that names no seat, or that sets bit 6 or 7, is met at check 9, a mode that is neither at check 8 (log 16). -/
def openChecks (p : Picture) (src : Station) (tag : Tag) (mode : Option Mode) (seats : SeatSet) :
    List (Nat × Bool × Reason) :=
  [(1, p.cn40 src, .notInService),
   (2, tag.home == src && tag.seq != 0 && (p.hiring tag).isNone, .wrongState),
   (3, (p.claim .shift).holder.isSome, .offShift),
   (4, (p.claim .close).holder.isNone, .closing),
   (5, !p.roster.any fun e => e.lockout, .lockout),
   (6, p.roster.any fun e => e.role == .head && e.state == .inService, .headLost),
   (7, decide (p.hirings.length < 4), .rosterFull),
   (8, match mode with
       | some .solo => p.hirings.isEmpty
       | some .shared => p.hirings.all fun h => h.mode == .shared
       | none => false, .soloConflict),
   (9, seats &&& 0xC0#8 == 0#8 && seats != 0 &&
       allSeats.all fun i => !seats.getLsbD i.val || p.claim (.seat i) == ⟨some src, tag.code⟩, .noSeats)]

/-- A frame of the producer stands in the PICTURE slot or its FIFO. -/
def Offered (p : Producer) (f : Frame) (w : Work) : Prop :=
  ∃ o, (w.sel.picture = some o ∨ o ∈ w.sel.fifo) ∧ o.producer = some p ∧ o.frame = f

/-- This node's HELLO: its straps, seat mask, config digest and slot's tag (01 R9, 03 R51). -/
def HelloFrom (c : Core) (tag : Option Tag) : HelloPay :=
  ⟨some c.straps.role.role, c.straps.sign, c.straps.role == .head && c.straps.odometer, c.cfg.seatMask, c.digest, tag⟩

/-- A holder answers SNAPSHOT_ASK (03 R54, R60): IN_SERVICE as the lowest-numbered HEAD or BAY in service, LISTENER as the lowest-numbered LISTENER while no HEAD or BAY is in service. -/
def AnswersAsks (c : Core) : Prop :=
  let cn40 (e : RosterEntry) : Prop := (e.role = .head ∨ e.role = .bay) ∧ e.state = .inService
  let lowest (which : RosterEntry → Prop) : Prop :=
    (∃ e ∈ c.view.roster, e.station = c.me ∧ which e) ∧ ∀ e ∈ c.view.roster, which e → c.me ≤ e.station
  c.node = .inService ∧ lowest cn40 ∨
    c.node = .listener ∧ (∀ e ∈ c.view.roster, ¬cn40 e) ∧ lowest fun e => e.state = .listener

/-- The picture that three parts and the catch-up list give (03 R56): the copy described by the parts, with the frames of the list applied; at each part's completion the sequence reached is that part's line sequence. The copy keeps the laws of a picture (log 20). -/
def Assembled (j : Join) (q : Picture) : Prop :=
  let caughtAt (k : Nat) (p : Picture) : Picture :=
    (j.caught.filter fun x => x.parts == k).foldl (fun p x => (p.apply x.src x.frame).1) p
  ∃ base b1 b2 l0 l1 l2 roster words shift digest hirings,
    j.parts = [⟨base, l0, .roster roster⟩, ⟨b1, l1, .words words shift digest⟩, ⟨b2, l2, .hirings hirings⟩] ∧
    let copy : Picture := ⟨roster, words, hirings, shift, digest, base⟩
    copy.lawful = true ∧ (caughtAt 0 copy).seq = l0 ∧ (caughtAt 1 (caughtAt 0 copy)).seq = l1 ∧
      q = caughtAt 2 (caughtAt 1 (caughtAt 0 copy)) ∧ q.seq = l2

/-- A record is in the intake or in the ring. -/
def Work.recorded (w : Work) (r : Record) : Prop :=
  r ∈ w.ret.journal.intake.map Taken.content ∨ r ∈ w.ret.journal.halfA.recs.map RingRec.content ∨
    r ∈ w.ret.journal.halfB.recs.map RingRec.content

/-- The slot carries a hiring of this tag. -/
def Slot.carries (s : Slot) (t : Tag) : Prop := s.state ≠ .free ∧ s.tag = t

/-- The slot is RUNNING or HELD. -/
def Slot.isOpen (s : Slot) : Prop := s.state = .running ∨ ∃ r, s.state = .held r

/-- Which hiring commands a node in service obeys (04 R78, 05 R85, R90, R92, R93, R95, R96). -/
def Obeys (c : Core) (w : Work) : HireCmd → Prop
  | .start seats mode =>
    w.ret.slot.state = .free ∧ seats ≠ 0 ∧ seats &&& ~~~c.cfg.seatMask = 0#8 ∧ mode ≠ none ∧
      (c.view.claim .shift).holder ≠ none ∧ (c.view.claim .close).holder = none ∧
      (∀ e ∈ c.view.roster, e.lockout = false) ∧ c.view.headIn = true
  | .stop t => w.ret.slot.carries t ∧ w.ret.slot.isOpen
  | .hold t => w.ret.slot.carries t ∧ w.ret.slot.state = .running
  | .resume t => w.ret.slot.carries t ∧ (∃ r, w.ret.slot.state = .held r) ∧ c.view.headIn = true
  | .cancel t =>
    w.ret.slot.carries t ∧ w.ret.slot.isOpen ∧ w.ret.slot.distance = 0 ∧ w.ret.slot.waiting = 0 ∧ w.ret.slot.extras = []
  | .unpaid t => w.ret.slot.carries t ∧ w.ret.slot.state = .paying ∧ w.ret.card.txn = .idle
  | .extra t code =>
    w.ret.slot.carries t ∧ (w.ret.slot.isOpen ∨ w.ret.slot.state = .paying) ∧ 1 ≤ code ∧ code ≤ 8 ∧
      w.ret.slot.extras.length < 6 ∧ ((c.cfg.extra code).once = true → ∀ e ∈ w.ret.slot.extras, e.1 ≠ code) ∧
      w.ret.slot.attempts = 0 ∧ w.ret.card.txn = .idle
  | .cash t amount =>
    w.ret.slot.carries t ∧ w.ret.slot.state = .paying ∧ w.ret.card.txn = .idle ∧ 1 ≤ amount ∧ amount ≤ 999999

/-- The slot is this one, but for the mark of a report to make. -/
def SlotIs (v : Work) (s : Slot) : Prop := { v.ret.slot with reportMark := false } = { s with reportMark := false }

/-- The slot is closing with the values of this one: its HIRING_CLOSED record is still to be taken, or is taken and the slot goes on to remove its entry; from rest it is taken at once, and the tally has counted it (05 R97, R98, 11 R180). -/
def Closes (c : Core) (w v : Work) (s : Slot) : Prop :=
  let x : ClosedRec := Slot.closedRec { s with stop := w.stamp } c.cfg
  let r : Record := ⟨.hiringClosed x, c.me, w.stamp, false⟩
  { v.ret.slot with state := .free, closing := none, reportMark := false } =
    { s with stop := w.stamp, state := .free, closing := none, reportMark := false } ∧
  (v.ret.slot.state = .closing .record ∧ v.ret.slot.closing = some r ∨
    v.ret.slot.state = .closing .removing ∧ v.recorded r) ∧
  (w.atRest = true → v.ret.slot.state = .closing .removing ∧ v.ret.tally.tally = w.ret.tally.tally.plus x.tally)

/-- The slot is this one, or closing with its values when nothing remains to be paid. -/
def PayingOn (c : Core) (w v : Work) (s : Slot) : Prop :=
  (s.remaining ≠ 0 → SlotIs v s) ∧ (s.remaining = 0 → Closes c w v s)

/-- What an obeyed hiring command makes of the slot. -/
def Obeyed (c : Core) (w v : Work) : HireCmd → Prop
  | .start seats mode =>
    let next : Fin 4096 := if w.ret.lastSeq.val = 4095 then 1 else w.ret.lastSeq + 1
    (∃ m, mode = some m ∧
      SlotIs v { Slot.cold with state := .starting .seats, tag := ⟨c.me, v.ret.lastSeq⟩, mode := m, seats := seats }) ∧
      (c.view.hiring ⟨c.me, next⟩ = none → v.ret.lastSeq = next)
  | .stop _ => PayingOn c w v { w.ret.slot with state := .paying } ∧ v.ret.lastSeq = w.ret.lastSeq
  | .hold _ => SlotIs v { w.ret.slot with state := .held .command } ∧ v.ret.lastSeq = w.ret.lastSeq
  | .resume _ => SlotIs v { w.ret.slot with state := .running } ∧ v.ret.lastSeq = w.ret.lastSeq
  | .cancel _ => Closes c w v { w.ret.slot with cancelled := true } ∧ v.ret.lastSeq = w.ret.lastSeq
  | .unpaid _ =>
    Closes c w v { w.ret.slot with unpaid := w.ret.slot.remaining, unpaidFlag := true } ∧ v.ret.lastSeq = w.ret.lastSeq
  | .extra _ code =>
    SlotIs v { w.ret.slot with extras := w.ret.slot.extras ++ [(code, (c.cfg.extra code).amount)] } ∧
      v.ret.lastSeq = w.ret.lastSeq
  | .cash _ amount =>
    PayingOn c w v { w.ret.slot with cash := w.ret.slot.cash + min amount w.ret.slot.remaining } ∧
      v.ret.lastSeq = w.ret.lastSeq

/-- A running slot after a charge: the fare stops at 9999.99, what is added goes to the band in force, and a charge cut short sets the limited flag (04 R76, R77). -/
def Slot.charged (s : Slot) (band amount : Nat) : Slot :=
  { s with fare := s.fare + min amount (999999 - s.fare),
           subtotals := addSubtotal band (min amount (999999 - s.fare)) s.subtotals,
           limited := s.limited || decide (999999 < s.fare + amount) }

/-- The standing work moves nothing of the slot or the call: the slot stands and no talk waits for the floor. -/
def CallQuiet (w : Work) : Prop := w.ret.slot.state.stands = true ∧ w.ic.talk ≠ .asking

/-- A holder of the picture whose standing work does not move the call. -/
def CallReady (c : Core) (w : Work) : Prop := c.serving = true ∧ CallQuiet w

/-- At rest, with no talk waiting for the floor: the standing work tells the console nothing. -/
def Quiescent (w : Work) : Prop := w.atRest = true ∧ w.ic.talk ≠ .asking

/-- The intercom is this one, but for the marks of the frame that stands in the CALL slot and of the TAKE asked for. -/
def CallIs (w : Work) (i : Intercom) : Prop := { w.ic with handed := false, ask := .none } = { i with handed := false, ask := .none }

/-- The call record of an ended call, with what is left of the call frame list. -/
def Intercom.ended (i : Intercom) (left : List (Station × CallFrame)) : Intercom :=
  { i with
    call := .idle
    peer := none
    urgent := false
    placed := false
    answer := false
    announce := false
    list := left
    ring := none
    tone := none }

/-- The same with the jitter queue emptied. -/
def Intercom.over (i : Intercom) (left : List (Station × CallFrame)) : Intercom :=
  { i.ended left with jitter := [], playout := .stopped, playing := none, source := none }

/-- The jitter queue after a frame joins it, of 6 the oldest lost (08 R142): the first frame begins to fill it, the second starts the first playing, a draining queue that plays nothing plays on. -/
def Intercom.taken (i : Intercom) (src : Station) (f : List Byte) : Intercom :=
  let queue := (if i.jitter.length < 6 then i.jitter else i.jitter.drop 1) ++ [f]
  let kept : Intercom := { i with jitter := queue, source := some src }
  match i.playout with
  | .stopped => { kept with playout := .filling }
  | .filling => if queue.length < 2 then kept else { kept with jitter := queue.tail, playing := queue.head?, playout := .playing }
  | .playing => kept
  | .draining => if i.playing = none then { kept with jitter := queue.tail, playing := queue.head? } else kept

/-- What a node answers to a CLOSE_CALL (11 R185): the first of its reasons not to be ready, in order. -/
def ReadyToClose (w : Work) (force : Bool) : Readiness :=
  if w.ret.slot.state ≠ .free then .notReady .hiring
  else if w.ret.card.txn ≠ .idle then .notReady .card
  else if (w.ret.journal.half (halfOf w.ret.journal.writePos)).state.waiting = true then .notReady .lockout
  else if w.ret.card.forward ≠ [] ∧ force = false then .notReady .forward
  else .ready

/-- The frame waits behind COMMAND or stands in the COMMAND slot. -/
def AnswerWaits (f : Frame) (w : Work) : Prop := w.sel.waitReady = some f ∨ ∃ o, w.sel.command = some o ∧ o.frame = f

/-- This node's own frame of the hiring controller for its slot completes, not one of the console's, the controller with no other frame and the card engine at rest. -/
def OwnHiringFrame (s : State) (m : Marks) (o : Offer) (f : PicFrame) : Prop :=
  OnAir s.node .picture o ∧ m.object = false ∧ o.frame = .pic f ∧ o.producer = some .hiring ∧ o.purpose ≠ .console ∧ s.node.core.serving = true ∧
    (∀ x ∈ s.node.w.sel.fifo, x.producer ≠ some .hiring) ∧ s.node.w.ret.card.txn = .idle ∧
    ∀ t, s.node.w.con.request ≠ some (.clearOrphan t)

/-- The slot has become FREE, its last report kept with the final values (04 R81, logs 41 and 46). -/
def SlotFreed (cfg : Cfg) (w v : Work) : Prop :=
  SlotIs v { Slot.cold with freed := some { w.ret.slot.report cfg with state := .free, hold := none } } ∧ v.ret.lastSeq = w.ret.lastSeq

/-- The finishing notice of a join at a node in service (03 R59). A RESUMING slot begins its reclaim (05 R101, R102): RUNNING, HELD and PAYING take their seats; a start removes an entry that carries its tag, else gives its seats back; a close goes on where it stood. The tally unit joins the picture's shift, or closes its copy of one that is over (11 R190). -/
def Finishes (c : Core) (w v : Work) : Prop :=
  let slot := w.ret.slot
  let goes (st : SlotState) (f : PicFrame) : Prop := SlotIs v { slot with state := st } ∧ Offered .hiring (.pic f) v
  let gives (st : SlotState) (l : List (Fin 6)) : Prop :=
    (l = [] → SlotFreed c.cfg w v) ∧
    ∀ i rest, l = i :: rest → SlotIs v { slot with state := st, toGive := l } ∧ Offered .hiring (.pic (.give (some (.seat i)))) v
  let held : Option ShiftRec := if (c.view.claim .shift).holder = none then none else c.view.shift
  (∀ p, slot.state = .resuming .wait p → (p = .running ∨ p = .paying ∨ ∃ r, p = .held r) →
    goes (.resuming .seats p) (.takeSet slot.seats slot.tag)) ∧
  (slot.state = .resuming .wait .starting →
    (c.view.hiring slot.tag ≠ none → goes (.resuming .removing .starting) (.hireClose slot.tag)) ∧
    (c.view.hiring slot.tag = none →
      gives (.resuming .returning .starting) (allSeats.filter fun i => slot.seats.getLsbD i.val))) ∧
  (slot.state = .resuming .wait (.closing .removing) → goes (.closing .removing) (.hireClose slot.tag)) ∧
  (slot.state = .resuming .wait (.closing .releasing) → gives (.closing .releasing) slot.toGive) ∧
  (∀ r, slot.state = .resuming .wait (.closing .record) → slot.closing = some r →
    SlotIs v { slot with state := .closing .record } ∨
      v.recorded r ∧ { v.ret.slot with closing := none, reportMark := false } =
        { slot with state := .closing .removing, closing := none, reportMark := false }) ∧
  (match w.ret.tally.copy, held with
    | some k, some x => v.ret.tally.copy =
        if k.shift.number = x.number ∧ k.shift.opened = x.opened then some k else some ⟨x, true⟩
    | some k, none => v.ret.tally.copy = some ⟨k.shift, false⟩
    | none, some x => v.ret.tally.copy = some ⟨x, true⟩
    | none, none => v.ret.tally.copy = none)

/-- A DISTANCE of a HEAD taken (04 R72, R73, R75, R80). -/
def DistanceTaken (c : Core) (n : Nat) (running : BitVec 16) (w v : Work) : Prop :=
  let missed : Option Nat := w.ret.lastRunning.map fun last => (running - BitVec.ofNat 16 n - last).toNat
  let slot : Slot := if w.ret.slot.gapPending then
      { w.ret.slot with gapPending := false, gap := match missed with
        | some m => min 65535 (w.ret.slot.gap + m)
        | none => w.ret.slot.gap }
    else w.ret.slot
  let rate := (c.cfg.band w.meter.band).rate slot.mode c.view.occupancy
  let reaches : Prop := c.cfg.driveQuietQ ≤ w.meter.window.sum + (w.meter.current + n)
  v.ret.lastRunning = some running ∧ v.ret.running = w.ret.running ∧ v.meter.seen = true ∧
  v.meter.lastDistance = some w.now ∧ v.meter.band = w.meter.band ∧ v.meter.window = w.meter.window ∧
  (c.straps.role = .head → v.meter.current = w.meter.current + n ∧
    (reaches → v.meter.quiet = true ∧ v.meter.quietSecs = if w.meter.quiet then w.meter.quietSecs else 0) ∧
    (¬reaches → v.meter.quiet = w.meter.quiet ∧ v.meter.quietSecs = w.meter.quietSecs)) ∧
  (c.straps.role = .bay → v.meter.current = w.meter.current ∧ v.meter.quiet = w.meter.quiet) ∧
  (slot.state = .running → v.ret.slot = Slot.charged { slot with distance := slot.distance + n } w.meter.band (n * rate)) ∧
  (slot.state ≠ .running → slot.state.stands = true → v.ret.slot = slot) ∧
  (w.atRest = true → c.straps.role = .head → c.view.free .shift = false →
    v.ret.tally.tally.hired = min 4294967295 (w.ret.tally.tally.hired + (if c.view.hired then n else 0)) ∧
    v.ret.tally.tally.empty = min 4294967295 (w.ret.tally.tally.empty + (if c.view.hired then 0 else n))) ∧
  (w.atRest = true → (c.straps.role = .bay ∨ c.view.free .shift = true) → v.ret.tally.tally = w.ret.tally.tally)

/-- The watch of a seat sensor after a sample, by the table of 05 R105: a count of 30 with the raised mark clear raises the alert and sets the mark. -/
def WatchAfter (x y : Watch) (occupied seatFree moving : Bool) : Prop :=
  (occupied = false → y = ⟨0, false⟩) ∧
  (occupied = true → seatFree = false → y = ⟨0, x.raised⟩) ∧
  (occupied = true → seatFree = true → moving = true → y = ⟨min 30 (x.count + 1), x.raised || decide (30 ≤ x.count + 1)⟩) ∧
  (occupied = true → seatFree = true → moving = false → y = ⟨x.count, x.raised || x.count == 30⟩)

/-- The drive-quiet condition of a HEAD at a one-second expiry (04 R75): the current second joins the window of 10; five seconds below Q turn it off, and the deferred list is released. -/
def QuietAfter (q : Nat) (w v : Work) : Prop :=
  let window := w.meter.current :: w.meter.window.take 9
  v.meter.window = window ∧ v.meter.current = 0 ∧
  (q ≤ window.sum → v.meter.quiet = w.meter.quiet ∧ v.meter.quietSecs = 0) ∧
  (window.sum < q → w.meter.quiet = false → v.meter.quiet = false ∧ v.meter.quietSecs = w.meter.quietSecs) ∧
  (window.sum < q → w.meter.quiet = true →
    (w.meter.quietSecs + 1 < 5 → v.meter.quiet = true ∧ v.meter.quietSecs = w.meter.quietSecs + 1) ∧
    (5 ≤ w.meter.quietSecs + 1 → v.meter.quiet = false ∧ v.meter.quietSecs = 5 ∧ v.alerts.deferred = []))

/-- The minute boundary of a clock set to `t` (04 R67, R70): the band is evaluated afresh, an open slot follows a changed one, and a HEAD in service offers the TIME, rewritten where it waits in the METER slot, kept waiting behind another frame; in any other second the band stands. -/
def MinuteAfter (c : Core) (t : Nat) (w v : Work) : Prop :=
  (t % 60 ≠ 0 → v.meter.band = w.meter.band) ∧
  (t % 60 = 0 → v.meter.band = c.cfg.bandAt (some t) ∧
    (c.straps.role = .head → c.node = .inService →
      (w.sel.meter = none → ∃ o, v.sel.meter = some o ∧ o.frame = .time t) ∧
      (∀ o old, w.sel.meter = some o → o.frame = .time old → o.attempts = 0 → v.sel.meter = some { o with frame := .time t }) ∧
      (∀ o, w.sel.meter = some o → (0 < o.attempts ∨ ∀ old, o.frame ≠ .time old) →
        v.sel.meter = w.sel.meter ∧ v.meter.timeWaiting = some (w.meter.timeWaiting.getD false))))

/-- This node's own frame of the tally unit completes. -/
def OwnShiftFrame (s : State) (m : Marks) (k : SlotId) (o : Offer) (f : PicFrame) : Prop :=
  OnAir s.node k o ∧ m.object = false ∧ o.frame = .pic f ∧ o.producer = some .tally ∧ s.node.core.serving = true

/-- This node's own picture-changing frame of a producer completes at a holder of the picture, the producer with no other frame. -/
def OwnFrame (s : State) (m : Marks) (p : Producer) (o : Offer) (f : PicFrame) : Prop :=
  OnAir s.node .picture o ∧ m.object = false ∧ o.frame = .pic f ∧ o.producer = some p ∧ s.node.core.serving = true ∧
    ∀ x ∈ s.node.w.sel.fifo, x.producer ≠ some p

/-- The attempt under way is the eighth of this node's own picture-changing frame of a producer, which has no other frame. -/
def LastAttempt (s : State) (p : Producer) (o : Offer) (f : PicFrame) : Prop :=
  s.node.w.onAir = some (.picture, o) ∧ o.leaving = false ∧ o.dead = false ∧ 8 ≤ o.attempts ∧ o.frame = .pic f ∧
    o.producer = some p ∧ s.node.core.serving = true ∧ ∀ x ∈ s.node.w.sel.fifo, x.producer ≠ some p

/-- The conditions under which forwarding begins, but for a step of it under way (09 R159). -/
def MayForward (c : Core) (w : Work) : Prop :=
  c.node = .inService ∧ (∃ e ∈ c.view.roster, e.role = .gateway ∧ e.state = .inService) ∧ (c.view.claim .lane).holder = none ∧
    (c.view.claim .close).holder = none ∧ w.ret.card.txn = .idle ∧ w.ret.card.forward ≠ []

/-- The station has a roster entry that is not JOINING (08 R143). -/
def PeerPresent (p : Picture) (x : Station) : Prop := ∃ e, p.entry x = some e ∧ e.state ≠ .joining

/-- Nothing but the talk moves the intercom at a change notice: the slot stands, the card engine rests, no announcement has been joined, and FLOOR is with the station whose frames the jitter queue holds. -/
def TalkAlone (c : Core) (w : Work) : Prop :=
  w.ret.slot.state.stands = true ∧ w.ret.card.txn = .idle ∧ w.ic.announce = false ∧
    ∀ y, w.ic.source = some y → c.view.holds .floor y = true

/-- A talk press of this node's connected call waits for the result of its TAKE (08 R135, R137). -/
def TalkAsks (c : Core) (w : Work) (peer : Dest) : Prop :=
  TalkAlone c w ∧ w.ic.talk = .asking ∧ w.ic.ask = .current ∧ w.ic.call = .connected ∧ w.ic.peer = some peer ∧
    ∀ x, peer = .station x → PeerPresent c.view x

/-- The intercom with the floor won: the jitter queue emptied, the talk begun for at most 60 s with the key held, else ending (08 R137). -/
def Intercom.talks (i : Intercom) (now : Time) : Intercom :=
  let emptied : Intercom := { i with jitter := [], playout := .stopped, playing := none, source := none }
  if i.keyHeld then { emptied with talk := .talking, talkLimit := some (now + sec 60), filling := [], ready := none }
  else { emptied with talk := .ending }

/-- The intercom of a press that has not got the floor: BLOCKED with 1 s of BUSY while the key is held, else QUIET (08 R137). -/
def Intercom.turnedAway (i : Intercom) (now : Time) : Intercom :=
  if i.keyHeld then { i with talk := .blocked, talkBusy := some (now + sec 1) } else { i with talk := .quiet }

/-- BUSY plays until this moment, or until the later end of one of its kind already under way (08 R127, log 14). -/
def BusyUntil (running : Option Time) (stop : Time) : Option Time :=
  match running with
  | some e => some (max stop e)
  | none => some stop

/-- The intercom of an announcement that does not start: the call ended, 1 s of BUSY (08 R135, log 14). -/
def Intercom.unannounced (i : Intercom) (now : Time) : Intercom :=
  { i.ended i.list with talk := .quiet, busy := BusyUntil i.busy (now + sec 1) }

/-- The intercom after the GIVE that ends a talk: BLOCKED while the key is held, else QUIET (08 R137, R138). -/
def Intercom.talked (i : Intercom) : Intercom :=
  { i with talk := if i.keyHeld then .blocked else .quiet, talkLimit := none, filling := [], ready := none }

/-- The request in progress ends with this result. -/
def EndsRequest (w v : Work) (r : Option Reason) : Prop :=
  v.con.results = w.con.results ++ [r] ∧ v.con.request = none

/-- The transaction is IDLE with its record cleared, and the reader is told to rest. -/
def Rests (w v : Work) : Prop :=
  v.ret.card.txn = .idle ∧ v.ret.card.record = TxnRec.cleared ∧ v.card.reader = w.card.reader ++ [.idle]

/-- The attempt has been decided on the node's own authority (09 R154): approved within the floor limit, the forward list and the offline cap, with a new OFFLINE entry, beside a VOID one of its sequence too (log 54), else declined NO_LINK; the result stands for 10 s. -/
def OfflineChecked (c : Core) (w v : Work) : Prop :=
  let k := w.ret.card
  let r := k.record
  let may : Prop := r.onlineRequired = false ∧ r.amount ≤ c.cfg.floorLimit ∧ k.forward.length < 4 ∧
    k.offlineCount < c.cfg.offlineCap
  v.ret.card.txn = .result ∧ v.card.hold = some (v.now + sec 10) ∧ v.card.laneRun = none ∧ v.card.reply = none ∧
  (may → v.ret.card.record = { r with result := some .approvedOffline } ∧ v.ret.card.offlineCount = k.offlineCount + 1 ∧
    v.ret.card.forward = k.forward ++ [⟨.offline, r.seq, r.tag, r.amount, r.token, some (r.scheme, r.entry), w.stamp⟩] ∧
    v.card.reader = w.card.reader ++ [.result .approved textOfflineOk]) ∧
  (¬may → v.ret.card.record = { r with result := some (.declined .noLink) } ∧ v.ret.card.offlineCount = k.offlineCount ∧
    v.ret.card.forward = k.forward ∧
    v.card.reader = w.card.reader ++ [.result .declined (if w.ret.slot.attempts = 3 then textRetryLimit else textNoLink)])

/-- The answers let a close be committed (11 R186): none, the HEAD's own included, says that it is not ready, and all are in or the close is forced. -/
def Agreed (expected : List (Station × Option Readiness)) (s : Shift) : Bool :=
  !(s.own :: expected.map fun e => e.2).any (fun a => match a with
    | some (.notReady _) => true
    | _ => false) && (s.force || expected.all fun e => e.2.isSome)

/-- The call record after an answer: its CALL_ANSWER joins the list, the ringing stops. -/
def Intercom.answered (i : Intercom) (x : Station) : Intercom :=
  { i with answer := true, ring := none, tone := none, list := i.list ++ [(x, .answer)] }

/-- The command is one of R192's requests, taken in these node line states; a message of an unknown kind is turned away as one. -/
def requestStates : Instr → Option (NodeState → Bool)
  | .consoleStartHire _ _ _ | .consoleStop _ | .consoleHold _ | .consoleResume _ | .consoleCancel _ | .consoleUnpaid _
  | .consoleExtra _ _ | .consoleCash _ _ | .consoleCard _ | .consoleShiftOpen _ | .consoleShiftClose _ | .consoleSetTime _
  | .consoleClearOrphan _ | .consoleForceClaim _ | .consoleAssistOff => some fun n => n == .inService
  | .consoleCall _ _ | .consoleTalkPress | .consoleTalkRelease | .consoleAnswer | .consoleHangup =>
    some fun n => n == .inService || n == .listener
  | .consoleStatusAsk => some fun n => n != .reset && n != .config
  | .consoleUnknownRequest kind => if consoleKindKnown kind then none else some fun n => n != .reset && n != .config
  | _ => none

/-- The result is added to those the console is to be sent; the request in progress is not disturbed. -/
def Told (w v : Work) (r : Option Reason) : Prop :=
  v.con.results = w.con.results ++ [r] ∧ v.con.request = w.con.request ∧ v.con.rx = w.con.rx

/-- The request is in progress, its result still to come. -/
def Opens (w v : Work) (q : Request) : Prop :=
  v.con.results = w.con.results ∧ v.con.request = some q ∧ v.con.rx = w.con.rx

/-- A HEAD in service whose console has no request in progress. -/
def ConsoleReady (c : Core) (w : Work) : Prop := c.node = .inService ∧ c.straps.role = .head ∧ w.con.request = none

/-- The console request for a hiring command; START_HIRE names its station. -/
def hireRequest (dst : Station) : HireCmd → Instr
  | .start q m => .consoleStartHire dst q m
  | .stop t => .consoleStop t
  | .hold t => .consoleHold t
  | .resume t => .consoleResume t
  | .cancel t => .consoleCancel t
  | .unpaid t => .consoleUnpaid t
  | .extra t c => .consoleExtra t c
  | .cash t a => .consoleCash t a

/-- The hiring tag that a command carries. -/
def hireTag : HireCmd → Option Tag
  | .start _ _ => none
  | .stop t | .hold t | .resume t | .cancel t | .unpaid t | .extra t _ | .cash t _ => some t

/-- The preconditions of a start at a node in service, in order (05 R85): whether each holds, and the reason when it does not. -/
def startChecks (c : Core) (w : Work) (seats : SeatSet) (mode : Option Mode) : List (Bool × Reason) :=
  [(w.ret.slot.state == .free, .wrongState),
   (seats != 0 && seats &&& ~~~c.cfg.seatMask == 0#8 && mode.isSome, .noSeats),
   ((c.view.claim .shift).holder.isSome, .offShift),
   ((c.view.claim .close).holder.isNone, .closing),
   (!c.view.roster.any fun e => e.lockout, .lockout),
   (c.view.headIn, .headLost)]

/-- The station has role BAY and is IN_SERVICE. -/
def BayInService (p : Picture) (s : Station) : Prop :=
  ∃ e, p.entry s = some e ∧ e.role = .bay ∧ e.state = .inService

/-- The slot may be paid by card: PAYING with something to pay and fewer than 3 attempts, the engine IDLE (09 R147). -/
def MayPayByCard (w : Work) : Prop :=
  w.ret.card.txn = .idle ∧ w.ret.slot.state = .paying ∧ 0 < w.ret.slot.remaining ∧ w.ret.slot.attempts < 3

/-- The card is armed for 60 s for what remains to be paid (09 R147). -/
def Arms (w v : Work) : Prop :=
  v.ret.card.txn = .armed ∧
  v.ret.card.record = { TxnRec.cleared with tag := w.ret.slot.tag, amount := w.ret.slot.remaining } ∧
  v.card.arm = some (w.now + sec 60) ∧ v.card.reader = w.card.reader ++ [.arm w.ret.slot.remaining]

/-- What a warm start keeps of the retained area (03 R49, 04 R67, R69, 05 R100, 09 R162, 10 R178). -/
def KeptAtStart (head : Bool) (r v : Retained) : Prop :=
  let clock := if head then r.clock else none
  let stamp : Stamp := match clock with
    | some t => ⟨t, false⟩
    | none => ⟨0, true⟩
  let k := r.card
  let covered : Bool := k.forward.any fun e => e.seq == k.record.seq
  let found (h : HalfRing) : HalfRing := if h.state = .streaming then { h with state := .ready, streamed := none } else h
  let noHolds : Prop := r.journal.headHold = [] ∧ k.hold = [] ∧ r.tally.hold = []
  let blocked : Prop := (r.journal.half (halfOf r.journal.writePos)).state.waiting = true
  let stuck : Prop := (r.journal.intake = [] ∧ noHolds ∨ blocked ∧ (4 ≤ r.journal.intake.length ∨ noHolds)) ∧
    (k.txn = .authWait → covered = true ∨ k.forward.length < 4)
  v.valid = r.valid ∧ v.lastSeq = r.lastSeq ∧ v.clock = clock ∧ v.running = r.running ∧ v.lastRunning = r.lastRunning ∧
  { v.slot with reportMark := false } =
    { (if r.slot.state = .free then r.slot else { r.slot with state := r.slot.state.suspend, refusal := none }) with
      reportMark := false } ∧
  v.card.reqSeq = k.reqSeq ∧ v.card.memory = k.memory ∧ v.card.offlineCount = k.offlineCount ∧
  v.card.record = (if k.txn = .idle then k.record else TxnRec.cleared) ∧
  v.card.forward = (if k.txn = .authWait ∧ covered = false ∧ k.forward.length < 4
    then k.forward ++ [⟨.void, k.record.seq, k.record.tag, k.record.amount, k.record.token, none, stamp⟩] else k.forward) ∧
  v.tally.copy = r.tally.copy ∧ v.tally.counter = r.tally.counter ∧
  (stuck → v.card.hold = k.hold ∧ v.tally = r.tally ∧
    v.journal = { r.journal with halfA := found r.journal.halfA, halfB := found r.journal.halfB })

/-- The sums of the vehicle summary over the HEAD's tally and the tallies taken (11 R179, R189): each counter and band total is the sum of all, at most 4,294,967,295; hired units, empty units and shift seconds are the HEAD's; the saturation flag stands where a tally carries it or a sum would go past that value. With no tally taken the sums are the HEAD's tally. -/
def VehicleSums (own : TallyVals) (taken : List TallyVals) (v : TallyVals) : Prop :=
  let shared : List (TallyVals → Nat) :=
    [fun t => t.hirings, fun t => t.cancelled, fun t => t.fares, fun t => t.extras, fun t => t.cash, fun t => t.cardOnline,
     fun t => t.cardOffline, fun t => t.unpaid, fun t => t.offline, fun t => t.forwarded, fun t => t.limited] ++
    (List.finRange 8).map fun b t => t.bands[b]
  let headOnly : List (TallyVals → Nat) := [fun t => t.hired, fun t => t.empty, fun t => t.seconds]
  let total (f : TallyVals → Nat) : Nat := f own + (taken.map f).sum
  (taken = [] → v = own) ∧
  (taken ≠ [] →
    (∀ f ∈ shared, f v = min 4294967295 (total f)) ∧
    (∀ f ∈ headOnly, f v = min 4294967295 (f own)) ∧
    (v.saturated = true ↔ own.saturated = true ∨ (∃ t ∈ taken, t.saturated = true) ∨
      (∃ f ∈ shared, 4294967295 < total f) ∨ ∃ f ∈ headOnly, 4294967295 < f own))

/-- The vehicle summary of the close (11 R189): its shift number, its sums, and the first 4 of the expected stations from which no tally was taken. -/
def VehicleSummary (w : Work) (v : Summary) : Prop :=
  v.shift = w.shift.number ∧ VehicleSums w.ret.tally.tally (w.shift.tallies.map fun e => e.2) v.sums ∧
  v.missing = ((w.shift.expected.map fun e => e.1).filter fun x => w.shift.tallies.all fun e => e.1 != x).take 4

/-- The talk key is up: a talk ends, a blocked press is forgotten with its BUSY, and a tone of the call goes on (08 R127, R137). -/
def TalkReleased (w v : Work) : Prop :=
  v.ic.keyHeld = false ∧ v.ic.call = w.ic.call ∧ v.ic.peer = w.ic.peer ∧ v.ic.tone = w.ic.tone ∧ v.ic.busy = w.ic.busy ∧
  (w.ic.talk = .talking → v.ic.talk = .ending ∧ v.ic.talkLimit = none ∧ v.ic.filling = []) ∧
  (w.ic.talk = .blocked → v.ic.talk = .quiet ∧ v.ic.talkBusy = none) ∧ (w.ic.talk = .quiet → v.ic.talk = .quiet)

end Sys2Proof.Machine

open Sys2Proof Sys2Proof.Machine

/-! ## The machine -/

/-- The command at the front of the queue is what a step runs, on the state with the queue's rest. The model's own choice (log 2): on an empty queue 1 ms passes and nothing else changes. -/
def Obligations.StepRunsFrontCommand : Prop :=
  (∀ (c : Instr) (s : State), step { s with pending := c :: s.pending } = exec c s) ∧
  (∀ s : State, s.pending = [] →
    step s = .next { s with node := { s.node with w := { s.node.w with now := s.node.w.now + ms 1 } } })

/-- Every command answers with a next state, in every state and for all operands, and leaves the waiting commands as they are. -/
def Obligations.EveryCommandAnswers : Prop := ∀ (c : Instr) (s : State), Answers c s fun _ => True

/-- The invariant of the core and the law of the ring hold after reset. -/
def Obligations.LawsHoldAtReset : Prop :=
  (State.reset.ok = true) ∧
  (State.reset.ringOk = true)

/-- Every step keeps the invariant of the core: a picture is held exactly in IN_SERVICE and LISTENER, its roster is in station order without duplicates, every word has one holder or none with tag 0, a held seat is held by the home station of its tag, at most 4 hirings with distinct tags, a SOLO hiring alone, a halt reason exactly in HALTED. -/
def Obligations.CoreLawKeptByEveryStep : Prop := ∀ s t : State, s.ok = true → step s = .next t → t.ok = true

/-- Every step keeps the law of the ring: the write position is at a FREE half's first position or just after a FILLING half's last record, no second half is FILLING, no half holds more than 128 records, and a running stream's half is STREAMING. -/
def Obligations.RingLawKeptByEveryStep : Prop := ∀ s t : State, s.ringOk = true → step s = .next t → t.ringOk = true

/-! ## Reset and start -/

/-- RESET: the node is in RESET with its straps, holds no picture and no halt reason; of the rest only the retained area is left, whose check a cut update leaves invalid, and which holds a clock at a HEAD only. The configuration and digest it shows until CONFIG are the model's blank ones (log 4). -/
def Obligations.ResetLeavesTheRetainedArea : Prop :=
  ∀ (cause : ResetCause) (cut : Bool) (s : State), Answers (.reset cause cut) s fun n =>
    n.core = { node := .reset, halt := none, straps := s.node.core.straps, cfg := Cfg.blank, digest := 0,
               standby := s.node.core.standby && cause != .standbyLost, pic := none } ∧
    n.w = Work.fresh s.node.w.now s.node.w.free
      { s.node.w.ret with
        valid := s.node.w.ret.valid && !cut
        clock := if s.node.core.isHead then s.node.w.ret.clock else none }

/-- RESET_END with a configuration that CONFIG does not accept: HALTED with CONFIG_FAULT, the straps sampled, the retained area not examined, no lamp test and no frame. RESET_END with an accepted configuration: JOINING with this node's HELLO offered, the digest computed over its span, the lamp test begun on a sign node. A warm start keeps the retained area, a BAY's clock apart: a slot that is not FREE is RESUMING with every other field kept, the transaction is IDLE and an attempt that waited for its reply is covered by a VOID entry while the forward list has room, a half found STREAMING is READY with its streamed mark clear; the records stand where they stood when none can go on (log 8). A cold start clears the retained area. -/
def Obligations.StartJoinsOrHalts : Prop :=
  (∀ (straps : Straps) (memory : Option (List Byte)) (keys : Keys) (s : State),
    s.node.core.node = .reset → decodeConfig memory = none → Answers (.resetEnd straps memory keys) s fun n =>
      n.core = { s.node.core with node := .halted, halt := some .configFault, straps := straps } ∧
      n.w.ret = s.node.w.ret ∧ n.w.keys = keys ∧ n.w.sel = Selector.empty ∧ n.w.sign = Sign.init) ∧
  (∀ (straps : Straps) (m : List Byte) (keys : Keys) (cfg : Cfg) (s : State),
    s.node.core.node = .reset → decodeConfig (some m) = some cfg → Answers (.resetEnd straps (some m) keys) s fun n =>
      let r := s.node.w.ret
      let warm := r.valid && s.node.core.standby
      let digest := crcBytes ((m.drop cfg.digestFirst).take (cfg.digestLast - cfg.digestFirst + 1))
      let tag : Option Tag := if warm = true ∧ r.slot.state ≠ .free then some r.slot.tag else none
      n.core = { node := .joining, halt := none, straps := straps, cfg := cfg, digest := digest, standby := true, pic := none } ∧
      Offered .join (.pic (.hello (HelloFrom n.core tag))) n.w ∧
      n.w.keys = keys ∧ n.w.sign.test = (if straps.sign then some (s.node.w.now + sec 2) else none) ∧
      n.w.ret.card.txn = .idle ∧ (warm = true → KeptAtStart (straps.role == .head) r n.w.ret) ∧
      (warm = false → n.w.ret = Retained.cold))

/-! ## The sign -/

/-- The sign state and seat digit are those of the first row of the table whose condition holds. FOR_HIRE is shown only with the node IN_SERVICE, SHIFT held, CLOSE free, a HEAD in service, no lockout and an empty hiring roster, and then always; a digit stands in SHARE only, and is 1 to 6. -/
def Obligations.SignFollowsTheTable : Prop :=
  ∀ c : Core,
    ((signTable c).find? fun row => row.1).map (fun row => row.2) = some (signOf c) ∧
    ((signOf c).1 = .forHire ↔
      c.node = .inService ∧ (c.view.claim .shift).holder ≠ none ∧ (c.view.claim .close).holder = none ∧
        (∃ e ∈ c.view.roster, e.role = .head ∧ e.state = .inService) ∧ (∀ e ∈ c.view.roster, e.lockout = false) ∧
        c.view.hirings = []) ∧
    ((signOf c).1 = .share → ∃ d, (signOf c).2 = some d ∧ 1 ≤ d ∧ d ≤ 6) ∧
    ((signOf c).1 ≠ .share → (signOf c).2 = none)

/-- LAMP_TEST_END: the mark clears, and the outputs take the sign state and overlay held. ASSIST_FLASH_PHASE: the assist lamp goes off for the rest of the second, unless the lamp test drives it; its dark time is held, and 1 s of it sets its fault flag, which is reported in service. LAMP_DARK_TIME_LIMIT of a lamp that is dark: its fault flag is set and, in service, reported; the sign state stays. LAMP_CURRENT_SENSE: current in a driven lamp clears dark time, flag and mark; the sense of a lamp driven off is only noted. The commands of moments take the time base to them (log 3). -/
def Obligations.SignLamps : Prop :=
  (∀ (s : State) (t : Time), s.node.w.sign.test = some t → s.node.core.straps.sign = true → Answers .lampTestEnd s fun n =>
    let g := s.node.w.sign
    n.core = s.node.core ∧ n.w.now = max s.node.w.now t ∧ n.w.sign.test = none ∧ n.w.sign.state = g.state ∧
      n.w.sign.digit = g.digit ∧ n.w.sign.overlay = g.overlay ∧
      (∀ l, l ≠ .assist → (n.w.sign.lamp l).driven = lampOn g.state l) ∧
      (n.w.sign.lamp .assist).driven = (g.overlay && decide (max s.node.w.now t < s.node.w.meter.secondAt + ms 500)) ∧
      ((n.w.sign.lamp .assist).fault = (g.lamp .assist).fault → n.w.sel = s.node.w.sel ∧ Untouched [.now, .sign] s.node.w n.w) ∧
      Untouched [.now, .sign, .alerts] s.node.w n.w) ∧
  (∀ s : State, s.node.core.node.started = true → s.node.core.straps.sign = true → Answers .assistFlashPhase s fun n =>
    let a := s.node.w.sign.assist
    let now := max s.node.w.now (s.node.w.meter.secondAt + ms 500)
    let limit : Prop := a.driven = true ∧ ∃ t, a.since = some t ∧ sec 1 ≤ a.dark + (now - t)
    n.core = s.node.core ∧ n.w.now = now ∧ n.w.sign.assist.driven = s.node.w.sign.test.isSome ∧
      n.w.sign.state = s.node.w.sign.state ∧ n.w.sign.overlay = s.node.w.sign.overlay ∧
      (s.node.w.sign.test = none →
        (∀ t, a.driven = true → a.since = some t → n.w.sign.assist.dark = min (sec 1) (a.dark + (now - t))) ∧
        (a.driven = false ∨ a.since = none → n.w.sign.assist.dark = a.dark) ∧
        (limit → n.w.sign.assist.fault = true) ∧ (¬limit → n.w.sign.assist.fault = a.fault) ∧
        (limit → a.fault = false → s.node.core.serving = true → n.w.sign.assist.reported = true) ∧
        (¬limit → n.w.sign.assist.reported = a.reported ∧ n.w.sel = s.node.w.sel ∧ Untouched [.now, .sign] s.node.w n.w)) ∧
      Untouched [.now, .sign, .alerts] s.node.w n.w) ∧
  (∀ (s : State) (l : LampId) (t : Time), (s.node.w.sign.lamp l).since = some t → Answers (.lampDarkTimeLimit l) s fun n =>
    n.core = s.node.core ∧ n.w.now = max s.node.w.now (t + (sec 1 - (s.node.w.sign.lamp l).dark)) ∧
      (n.w.sign.lamp l).fault = true ∧ (n.w.sign.lamp l).dark = sec 1 ∧
      (n.w.sign.lamp l).reported =
        ((s.node.w.sign.lamp l).reported || (s.node.core.serving && s.node.core.straps.sign)) ∧
      (n.w.sign.lamp l).driven = (s.node.w.sign.lamp l).driven ∧ n.w.sign.state = s.node.w.sign.state ∧
      (∀ l', l' ≠ l → n.w.sign.lamp l' = s.node.w.sign.lamp l') ∧ Untouched [.now, .sign, .alerts] s.node.w n.w) ∧
  (∀ (s : State) (l : LampId), s.node.core.straps.sign = true → (s.node.w.sign.lamp l).driven = true →
    Answers (.lampCurrentSense l true) s fun n =>
      n.core = s.node.core ∧
        n.w.sign.lamp l = { s.node.w.sign.lamp l with sense := true, dark := 0, since := none, fault := false, reported := false } ∧
        n.w.sign.state = s.node.w.sign.state ∧ (∀ l', l' ≠ l → n.w.sign.lamp l' = s.node.w.sign.lamp l') ∧
        n.w.sel = s.node.w.sel ∧ Untouched [.sign] s.node.w n.w) ∧
  (∀ (s : State) (l : LampId) (current : Bool), s.node.core.straps.sign = true → (s.node.w.sign.lamp l).driven = false →
    Answers (.lampCurrentSense l current) s fun n =>
      n.core = s.node.core ∧ n.w.sign.lamp l = { s.node.w.sign.lamp l with sense := current } ∧
        n.w.sign.state = s.node.w.sign.state ∧ (∀ l', l' ≠ l → n.w.sign.lamp l' = s.node.w.sign.lamp l') ∧
        n.w.sel = s.node.w.sel ∧ Untouched [.sign] s.node.w n.w)

/-! ## The line -/

/-- LINE_IDLE opens a round and ends the window; CONTENTION_ROUND_START hands over the frame the selector chooses; FRAME_SOURCE_READ sets the last winner, and no round runs while a frame is on the line; where the complement does not agree, or a sender reads its own source back wrong, the last winner is 15, and a sender has collided. Nothing else changes. The selector chooses a frame exactly when a slot is occupied; its class is the lowest, and among equal classes its slot is the earliest. -/
def Obligations.RoundSourceAndChoice : Prop :=
  (∀ s : State, s.node.core.node.started = true → Answers .lineIdle s fun n =>
    n = { s.node with w := { s.node.w with line := { s.node.w.line with round := true, mark := none } } }) ∧
  (∀ s : State, s.node.core.node.onLine = true → s.node.w.line.round = true → s.node.w.line.sending = false →
    Answers .contentionRoundStart s fun n =>
      n = { s.node with w := { s.node.w with line := { s.node.w.line with inHand := s.node.w.sel.choose } } }) ∧
  (∀ (s : State) (source : BitVec 4), s.node.core.node.started = true →
    Answers (.frameSourceRead source (~~~ source) false) s fun n =>
      n = { s.node with w := { s.node.w with line := { s.node.w.line with lastWinner := source.toFin, round := false } } }) ∧
  (∀ (s : State) (source complement : BitVec 4) (bad : Bool), s.node.core.node.started = true → complement ≠ ~~~ source →
    Answers (.frameSourceRead source complement bad) s fun n =>
      n = { s.node with w := { s.node.w with line :=
        { s.node.w.line with lastWinner := 15, collided := s.node.w.line.collided || s.node.w.line.sending, round := false } } }) ∧
  (∀ (s : State) (source : BitVec 4), s.node.core.node.started = true →
    Answers (.frameSourceRead source (~~~ source) true) s fun n =>
      n = { s.node with w := { s.node.w with line := if s.node.w.line.sending
        then { s.node.w.line with lastWinner := 15, collided := true, round := false }
        else { s.node.w.line with lastWinner := source.toFin, round := false } } }) ∧
  (∀ q : Selector,
    (q.choose = none ↔ ∀ k, q.get k = none) ∧
    (∀ k, q.choose = some k → ∃ o, q.get k = some o ∧ ∀ k' o', q.get k' = some o' →
      o.frame.cls < o'.frame.cls ∨ (o.frame.cls = o'.frame.cls ∧ k.ctorIdx ≤ k'.ctorIdx)))

/-- The rank of a frame is its class × 16 plus its position, which is (sender − last winner − 1) mod 16; the last winner is 15 after a collision, else the source read. Lower classes outrank higher ones, and two stations with one last winner never have the same rank in one class. ATTEMPT_START: with no start mark in a slot before the frame's rank the attempt is counted and under way, a snapshot part taking the picture sequence of this moment; with one the node defers, no attempt counted and every slot as it was. -/
def Obligations.RankAndAttempt : Prop :=
  (∀ (me last : Station) (f : Frame), (rank me last f : Int) = f.cls * 16 + ((me.val : Int) - last.val - 1) % 16) ∧
  (∀ (me : Station) (f : Frame), rank me me f = f.cls * 16 + 15) ∧
  (∀ (me last : Station) (f : Frame), rank me last f < 64) ∧
  (∀ (a b last : Station) (f g : Frame), f.cls < g.cls → rank a last f < rank b last g) ∧
  (∀ (a b last : Station) (f g : Frame), rank a last f = rank b last g → a = b) ∧
  (∀ (s : State) (first : Option Nat) (k : SlotId) (o : Offer), s.node.core.node.onLine = true →
    s.node.w.line.round = true → s.node.w.line.sending = false → s.node.w.line.inHand = some k →
    s.node.w.sel.get k = some o →
    (∀ m, first = some m → rank s.node.core.me s.node.w.line.lastWinner o.frame ≤ m) → Answers (.attemptStart first) s fun n =>
      n.core = s.node.core ∧ n.w.line.sending = true ∧ n.w.line.inHand = some k ∧
        n.w.sel.get k = some { o with
          attempts := o.attempts + 1
          frame := match o.frame with
            | .snapshot d p => .snapshot d { p with line := s.node.core.view.seq }
            | f => f } ∧
        (∀ k', k' ≠ k → n.w.sel.get k' = s.node.w.sel.get k') ∧ n.w.sel.fifo = s.node.w.sel.fifo ∧
        Untouched [.line] s.node.w n.w) ∧
  (∀ (s : State) (m : Nat) (k : SlotId) (o : Offer), s.node.core.node.onLine = true →
    s.node.w.line.round = true → s.node.w.line.sending = false → s.node.w.line.inHand = some k →
    s.node.w.sel.get k = some o → m < rank s.node.core.me s.node.w.line.lastWinner o.frame →
    Answers (.attemptStart (some m)) s fun n =>
      n = { s.node with w := { s.node.w with line := { s.node.w.line with inHand := none, round := false } } })

/-- FRAME_JUDGED_FAILED at a node that marks: OBJECT, and the objection run count rises; the eighth objection in a run makes the node DETACHED for 1 s with no picture and an empty selector. A failed attempt that was not the eighth, of a frame whose line-wait limit has not expired, leaves every slot and the FIFO as they were; one of a frame whose limit has expired, not the eighth, abandons it with LINE_BUSY, the eighth with LINE_FAIL, which answers the console's request that sent it. -/
def Obligations.FailedFrames : Prop :=
  (∀ (s : State) (f : RawFrame) (ranOn : Bool), s.node.core.node.onLine = true → s.node.w.line.sending = false →
    ((f.agrees = true ∧ f.good = false) ∨ (f.agrees = false ∧ ranOn = true)) →
    (s.node.w.line.objections + 1 < 8 → Answers (.frameJudgedFailed f ranOn) s fun n =>
      n.core = s.node.core ∧ n.w.line.mark = some .object ∧ n.w.line.objections = s.node.w.line.objections + 1 ∧
        n.w.line.lastWinner = (if f.agrees then f.source.toFin else 15) ∧ Untouched [.line] s.node.w n.w) ∧
    (8 ≤ s.node.w.line.objections + 1 → Answers (.frameJudgedFailed f ranOn) s fun n =>
      n.core = { s.node.core with node := .detached, halt := none, pic := none } ∧
        n.w.join.detached = some (s.node.w.now + sec 1) ∧ n.w.sel = Selector.empty ∧
        (s.node.core.serving = true → n.w.store = Store.init ∧ n.w.ret.slot.state = s.node.w.ret.slot.state.suspend) ∧
        Untouched [.slot, .card, .records, .shift, .line, .store, .join, .sign, .alerts, .call, .stream, .console]
          s.node.w n.w)) ∧
  (∀ (s : State) (k : SlotId) (o : Offer), s.node.w.onAir = some (k, o) → o.leaving = false → o.attempts < 8 →
    o.expired = false → Answers .attemptFailed s fun n =>
      n = { s.node with w := { s.node.w with line :=
        { s.node.w.line with sending := false, collided := false, inHand := none, round := false } } }) ∧
  (∀ (s : State) (k : SlotId) (o : Offer) (d : Station) (c : HireCmd), s.node.w.onAir = some (k, o) → o.leaving = false →
    o.dead = false → o.attempts < 8 → o.expired = true → o.frame = .hireCommand d c → s.node.w.con.request = some .hire →
    Answers .attemptFailed s fun n =>
      n.core = s.node.core ∧ n.w.con.request = none ∧ n.w.con.results = s.node.w.con.results ++ [some .lineBusy] ∧
        n.w.line.sending = false ∧ Untouched [.line, .console] s.node.w n.w) ∧
  (∀ (s : State) (k : SlotId) (o : Offer) (d : Station) (c : HireCmd), s.node.w.onAir = some (k, o) → o.leaving = false →
    o.dead = false → 8 ≤ o.attempts → o.frame = .hireCommand d c → s.node.w.con.request = some .hire →
    Answers .attemptFailed s fun n =>
      n.core = s.node.core ∧ n.w.con.request = none ∧ n.w.con.results = s.node.w.con.results ++ [some .lineFail] ∧
        n.w.line.sending = false ∧ Untouched [.line, .console, .alerts] s.node.w n.w)

/-- FRAME_OUTCOME of a console request's HIRE_COMMAND: DONE for TAKEN, with REFUSED or without (log 17), WRONG_STATE for REFUSED, NO_ANSWER for a window with neither; the request ends, and this node is the last winner. FRAME_OUTCOME of this node's own picture-changing frame, not objected: its own picture store applies it, the presence timer restarts. A completed broadcast that is this node's own is that outcome (log 5). -/
def Obligations.OwnFrameOutcome : Prop :=
  (∀ (s : State) (m : Marks) (k : SlotId) (o : Offer) (d : Station) (c : HireCmd), OnAir s.node k o → m.object = false →
    o.frame = .hireCommand d c → s.node.w.con.request = some .hire → Answers (.frameOutcome m) s fun n =>
      n.core = s.node.core ∧ n.w.con.request = none ∧
        n.w.con.results = s.node.w.con.results ++
          [if m.taken then none else if m.refused then some .wrongState else some .noAnswer] ∧
        n.w.line.lastWinner = s.node.core.me ∧ n.w.line.sending = false ∧ Untouched [.line, .store, .console] s.node.w n.w) ∧
  (∀ (s : State) (m : Marks) (k : SlotId) (o : Offer) (f : PicFrame), OnAir s.node k o → m.object = false →
    o.frame = .pic f → s.node.core.serving = true → f ≠ .drop s.node.core.me →
    outranked s.node.core s.node.core.view (s.node.core.view.apply s.node.core.me f).1 s.node.core.me = false →
    Answers (.frameOutcome m) s fun n =>
      n.core = { s.node.core with pic := some (s.node.core.view.apply s.node.core.me f).1 } ∧
        n.w.line.lastWinner = s.node.core.me ∧ n.w.store.presence = some s.node.w.now ∧
        Untouched [.slot, .card, .records, .shift, .line, .store, .join, .sign, .alerts, .call, .stream, .ports, .console]
          s.node.w n.w) ∧
  (∀ (s : State) (src : Station) (f : PicFrame), s.node.sends src (.pic f) = true →
    exec (frameCommand src f) s = exec (.frameOutcome ⟨false, false, false⟩) s)

/-- FRAME_OUTCOME, not objected, of this node's other frames; a window with both marks counts as TAKEN (log 17). The founding STATUS founds the picture and finishes the join. CALL: TAKEN rings back for 30 s, REFUSED ends the call with the busy tone of 2 s, or until the end of one under way (log 14), neither ends it; a console's CALL is answered. CALL_ANSWER: TAKEN connects, else the call ends, the jitter queue draining (log 44), as after a CALL_HELD or CALL_RESUMED of a call in progress; TAKEN, or of a call that is over, those two change nothing, and CALL_END never does. AUTH_REQUEST: TAKEN waits 20 s for the reply, REFUSED waits again for LANE with what is left of its limit, neither makes the offline check. FORWARD: TAKEN takes the entry off the list as forwarded, and no other of its sequence (log 54); otherwise it stays, but for one a forced close has turned into a record (log 29); then LANE is given. ALERT: TAKEN takes its lost count off, one not answered is tried twice. JOURNAL_RECORD and JOURNAL_END: the next record, the half streamed, or the stream stopped. CLOSE_READY not answered is offered again with the readiness of the moment. TALLY is delivered, SNAPSHOT goes on to the next part, a FARE_REPORT not taken waits for the next second, a VOICE makes way for the ready frame. -/
def Obligations.OwnOutcomes : Prop :=
  (∀ (s : State) (m : Marks) (k : SlotId) (o : Offer) (st : StatusPay), OnAir s.node k o → m.object = false →
    s.node.core.node = .founding → o.frame = .pic (.status st) → Answers (.frameOutcome m) s fun n =>
      let c := s.node.core
      let shift : Option ShiftRec := match s.node.w.ret.tally.copy with
        | some x => if x.isOpen then some x.shift else none
        | none => none
      let entry : RosterEntry :=
        { station := c.me, role := c.straps.role.role, sign := c.straps.sign, odometer := c.straps.role == .head && c.straps.odometer,
          mask := c.cfg.seatMask, digest := c.digest, state := .inService, lockout := st.lockout, halfA := st.halfA,
          halfB := st.halfB, fwd := st.fwd, announced := s.node.w.join.helloTag }
      let words := match shift with
        | some x => { Claims.free with shift := ⟨some c.me, BitVec.ofNat 16 x.number⟩ }
        | none => Claims.free
      let founded : Picture := ⟨[entry], words, [], shift, c.digest, 0⟩
      n.core = { c with node := .inService, halt := none, pic := some founded } ∧
      n.w.store = ⟨some s.node.w.now, [], [], false⟩ ∧ n.w.join.announcing = .done ∧
      (s.node.w.sel.has .hiring = false → (∀ t, s.node.w.con.request ≠ some (.clearOrphan t)) →
        Finishes n.core s.node.w n.w) ∧
      Untouched [.slot, .card, .records, .shift, .line, .store, .join, .sign, .alerts, .call] s.node.w n.w) ∧
  (∀ (s : State) (m : Marks) (k : SlotId) (o : Offer) (x : Station) (urgent : Bool), OnAir s.node k o → m.object = false →
    CallQuiet s.node.w → o.frame = .call x (.call urgent) → s.node.w.ic.call = .ringingOut → s.node.w.ic.placed = true →
    s.node.w.ic.peer = some (.station x) → (s.node.core.straps.role = .head ∨ s.node.core.view.free .floor = true) →
    Answers (.frameOutcome m) s fun n =>
      let i := s.node.w.ic
      let left := i.list.drop 1
      n.core = s.node.core ∧ Untouched [.line, .store, .call, .console] s.node.w n.w ∧
      (m.taken = true → CallIs n.w { i with list := left, placed := false, ring := some (s.node.w.now + sec 30),
                                            tone := some .ringback }) ∧
      (m.taken = false → m.refused = true →
        CallIs n.w { i.ended left with busy := BusyUntil i.busy (s.node.w.now + sec 2) }) ∧
      (m.taken = false → m.refused = false → CallIs n.w (i.ended left)) ∧
      (o.purpose = .console → s.node.w.con.request = some .call → n.w.con.request = none ∧
        n.w.con.results = s.node.w.con.results ++
          [if m.taken then none else if m.refused then some .wrongState else some .noAnswer])) ∧
  (∀ (s : State) (m : Marks) (k : SlotId) (o : Offer) (x : Station), OnAir s.node k o → m.object = false →
    CallQuiet s.node.w → s.node.w.ic.talk = .quiet → o.frame = .call x .answer → s.node.w.ic.call = .ringingIn →
    s.node.w.ic.answer = true → s.node.w.ic.peer = some (.station x) →
    (s.node.core.straps.role = .head ∨ s.node.core.view.free .floor = true) → Answers (.frameOutcome m) s fun n =>
      let i := s.node.w.ic
      n.core = s.node.core ∧ Untouched [.line, .store, .call, .console] s.node.w n.w ∧
      (m.taken = true → CallIs n.w { i with list := i.list.drop 1, call := .connected, answer := false }) ∧
      (m.taken = false → CallIs n.w (i.drain.ended []))) ∧
  (∀ (s : State) (m : Marks) (k : SlotId) (o : Offer) (x : Station) (f : CallFrame), OnAir s.node k o → m.object = false →
    CallQuiet s.node.w → s.node.w.ic.talk = .quiet → o.frame = .call x f →
    (f = .held ∨ f = .resumed ∨ ∃ r, f = .ended r) →
    (s.node.core.straps.role = .head ∨ s.node.core.view.free .floor = true) → Answers (.frameOutcome m) s fun n =>
      let i := s.node.w.ic
      let lost : Prop := m.taken = false ∧ (∀ r, f ≠ .ended r) ∧ i.call ≠ .idle ∧ i.announce = false ∧ i.peer = some (.station x)
      n.core = s.node.core ∧ Untouched [.line, .store, .call, .console] s.node.w n.w ∧
      (o.purpose ≠ .console → Piece.same s.node.w n.w .console) ∧
      (lost → CallIs n.w (i.drain.ended [])) ∧ (¬lost → CallIs n.w { i with list := i.list.drop 1 })) ∧
  (∀ (s : State) (m : Marks) (k : SlotId) (o : Offer) (g : Station) (q : AuthReq), OnAir s.node k o → m.object = false →
    o.frame = .authRequest g q → s.node.w.ret.card.txn = .authWait → s.node.w.ret.card.record.seq = q.seq →
    Answers (.frameOutcome m) s fun n =>
      let w := s.node.w
      n.core = s.node.core ∧ Untouched [.slot, .card, .records, .line, .store, .alerts, .call] w n.w ∧
      (m.taken = true → n.w.ret.card.txn = .authWait ∧ n.w.ret.card.record = w.ret.card.record ∧
        n.w.card.reply = some (w.now + sec 20)) ∧
      (m.taken = false → m.refused = true → w.card.laneLeft ≠ 0 → n.w.ret.card.txn = .laneWait ∧
        n.w.ret.card.record = w.ret.card.record ∧ n.w.card.laneRun = some (w.now + w.card.laneLeft) ∧
        n.w.card.laneRetry = some (w.now + sec 1)) ∧
      (m.taken = false → (m.refused = false ∨ w.card.laneLeft = 0) → OfflineChecked s.node.core w n.w)) ∧
  (∀ (s : State) (m : Marks) (k : SlotId) (o : Offer) (g : Station) (e : FwdEntry), OnAir s.node k o → m.object = false →
    s.node.core.serving = true → o.frame = .forward g e → s.node.w.card.fwd = .sending → s.node.w.sel.has .card = false →
    Answers (.frameOutcome m) s fun n =>
      let k := s.node.w.ret.card
      let others := k.forward.filter fun x => x != e
      let turned : Prop := s.node.w.card.committed = some e ∧ e ∈ k.forward
      let r : Record := ⟨.unsentOffline e, s.node.core.me, s.node.w.stamp, false⟩
      n.core = s.node.core ∧ n.w.card.fwd = .giving ∧ n.w.card.committed = none ∧ n.w.ret.card.txn = k.txn ∧
      n.w.ret.card.record = k.record ∧ n.w.card.retry = !m.taken ∧
      (s.node.w.ret.slot.state.stands = true → s.node.w.sel.has .hiring = false → Offered .card (.pic (.give (some .lane))) n.w) ∧
      (m.taken = true → n.w.ret.card.forward = others ∧ (s.node.w.atRest = true →
        n.w.ret.tally.tally.forwarded = min 4294967295 (s.node.w.ret.tally.tally.forwarded + 1))) ∧
      (m.taken = false → turned → n.w.ret.card.forward = others ∧ (n.w.recorded r ∨ r ∈ n.w.ret.card.hold)) ∧
      (m.taken = false → ¬turned → n.w.ret.card.forward = k.forward) ∧
      Untouched [.card, .records, .alerts, .line, .store] s.node.w n.w) ∧
  (∀ (s : State) (m : Marks) (k : SlotId) (o : Offer) (d : Station) (cls : AlertClass) (a : AlertRec) (carried : Nat),
    OnAir s.node k o → m.object = false → s.node.w.atRest = true → o.frame = .alert d cls a carried →
    (∀ x ∈ s.node.w.alerts.queue, ∀ b, x.dest = .bay b → s.node.core.view.entry b ≠ none) →
    Answers (.frameOutcome m) s fun n =>
      let al := s.node.w.alerts
      let gone (x : Part) : Bool := x.inSlot && (m.taken || m.refused || x.tries != 0)
      let kept (x : Part) : Part := { x with tries := if x.inSlot then 1 else x.tries, inSlot := false }
      n.core = s.node.core ∧ Untouched [.line, .store] s.node.w n.w ∧
      (n.w.alerts.queue.map fun x => { x with inSlot := false }) = (al.queue.filter fun x => !gone x).map kept ∧
      min 255 n.w.alerts.lost =
        min 255 (if m.taken then al.lost - carried else if al.queue.any gone then al.lost + 1 else al.lost)) ∧
  (∀ (s : State) (m : Marks) (k : SlotId) (o : Offer) (x : Machine.Stream), OnAir s.node k o → m.object = false →
    s.node.core.serving = true → o.frame.isJournal = true → s.node.w.stream = some x → Answers (.frameOutcome m) s fun n =>
      let half := s.node.w.ret.journal.half x.half
      n.core = s.node.core ∧ Untouched [.records, .line, .store, .stream] s.node.w n.w ∧
      (m.taken = true → x.ended = false → n.w.stream =
          some { x with next := x.next + 1, sent := x.sent + 1, ended := decide (half.recs.length ≤ x.sent + 1) } ∧
        ∀ r, half.recs[x.sent + 1]? = some r →
          n.w.sel.waitJournal = some (.journalRecord x.reader x.half (x.next + 1) r) ∨
            ∃ o, n.w.sel.bulk = some o ∧ o.frame = .journalRecord x.reader x.half (x.next + 1) r) ∧
      (m.taken = true → x.ended = true → n.w.stream = none ∧
        n.w.ret.journal.half x.half = { half with state := .ready, streamed := some x.reader }) ∧
      (m.taken = false → n.w.stream = none ∧
        n.w.ret.journal.half x.half = { half with state := .ready, streamed := none })) ∧
  (∀ (s : State) (m : Marks) (k : SlotId) (o : Offer) (dst : Station) (number : Nat) (r : Readiness) (force : Bool),
    OnAir s.node k o → m.object = false → s.node.core.node = .inService → o.frame = .closeReady dst number r →
    s.node.w.shift.answered = some ⟨number, force, dst⟩ → s.node.core.view.claim .close = ⟨some dst, BitVec.ofNat 16 number⟩ →
    s.node.w.sel.waitReady = none → Answers (.frameOutcome m) s fun n =>
      n.core = s.node.core ∧ Untouched [.line, .store] s.node.w n.w ∧
      (m.taken = false → m.refused = false → AnswerWaits (.closeReady dst number (ReadyToClose s.node.w force)) n.w) ∧
      (m.taken = true ∨ m.refused = true → n.w.sel.waitReady = none)) ∧
  (∀ (s : State) (m : Marks) (k : SlotId) (o : Offer) (number : Nat) (t v : TallyVals), OnAir s.node k o → m.object = false →
    o.frame = .tally number t → s.node.w.shift.tallySent = some (number, v) → Answers (.frameOutcome m) s fun n =>
      n.core = s.node.core ∧ n.w.shift = { s.node.w.shift with tallySent := none, tallyEnd := none } ∧
        Untouched [.shift, .line, .store] s.node.w n.w) ∧
  (∀ (s : State) (m : Marks) (k : SlotId) (o : Offer) (d : Station) (p : SnapPart) (x : Serving), OnAir s.node k o →
    m.object = false → s.node.core.serving = true → o.frame = .snapshot d p → s.node.w.join.serving = some x → x.joiner = d →
    x.part = p.content.no → Answers (.frameOutcome m) s fun n =>
      let next := x.copy.part s.node.core.view.seq (x.part + 1)
      n.core = s.node.core ∧ Untouched [.join, .line, .store] s.node.w n.w ∧
      (m.taken = true → x.part < 2 → n.w.join.serving = some { x with part := x.part + 1 } ∧
        (n.w.sel.waitSnapshot = some (.snapshot d next) ∨ ∃ o, n.w.sel.bulk = some o ∧ o.frame = .snapshot d next)) ∧
      (m.taken = false ∨ 2 ≤ x.part → n.w.join.serving = none)) ∧
  (∀ (s : State) (m : Marks) (k : SlotId) (o : Offer) (h : Station) (r : FareRep), OnAir s.node k o → m.object = false →
    m.taken = false → s.node.w.ret.slot.state.stands = true → o.frame = .fareReport h r → Answers (.frameOutcome m) s fun n =>
      n.core = s.node.core ∧ n.w.ret.slot = { s.node.w.ret.slot with reportMark := true } ∧
        n.w.hire = { s.node.w.hire with retry := true } ∧ Untouched [.slot, .line, .store] s.node.w n.w) ∧
  (∀ (s : State) (m : Marks) (o : Offer) (d x : Dest) (f g : List Byte), OnAir s.node .voice o → m.object = false →
    s.node.core.serving = true → o.frame = .voice x g → s.node.w.ic.ready = some (d, f) →
    s.node.w.ic.talk = .talking ∨ s.node.w.ic.talk = .ending → s.node.core.view.holds .floor s.node.core.me = true →
    s.node.w.ret.slot.state.stands = true → Answers (.frameOutcome m) s fun n =>
      n.core = s.node.core ∧ CallIs n.w { s.node.w.ic with ready := none } ∧
        (∃ o, n.w.sel.voice = some o ∧ o.frame = .voice d f ∧ o.attempts = 0) ∧ Untouched [.line, .store, .call] s.node.w n.w)

/-- LINE_WAIT_LIMIT_EXPIRY: during an attempt the frame is only noted as expired; otherwise it is abandoned with LINE_BUSY, which answers the console's request that sent it, from a slot as from the FIFO. PRESENCE_TIMER_EXPIRY with no STATUS of the status producer in the selector offers one; SILENCE_TIMER_EXPIRY puts the station on the DROP list once, and a node IN_SERVICE has its DROP offered. Each takes the time base to its moment (log 3). -/
def Obligations.LineTimers : Prop :=
  (∀ (s : State) (k : SlotId) (o : Offer), s.node.w.onAir = some (k, o) → Answers (.lineWaitLimitExpiry (.slot k)) s fun n =>
    n.core = s.node.core ∧ n.w.now = max s.node.w.now (o.offeredAt + waitLimit o.frame.cls) ∧
      n.w.sel = s.node.w.sel.set k (some { o with expired := true }) ∧
      Untouched [.now] s.node.w n.w) ∧
  (∀ (s : State) (o : Offer) (d : Station) (c : HireCmd), s.node.w.sel.get .command = some o →
    (s.node.w.line.sending && s.node.w.line.inHand == some .command) = false → o.leaving = false → o.dead = false →
    o.frame = .hireCommand d c → s.node.w.con.request = some .hire → Answers (.lineWaitLimitExpiry (.slot .command)) s fun n =>
      n.core = s.node.core ∧ n.w.now = max s.node.w.now (o.offeredAt + waitLimit o.frame.cls) ∧ n.w.con.request = none ∧
        n.w.con.results = s.node.w.con.results ++ [some .lineBusy] ∧ Untouched [.now, .line, .console] s.node.w n.w) ∧
  (∀ (s : State) (o : Offer) (number driver : Nat) (opened : Stamp),
    (s.node.w.sel.fifo.find? fun x => x.isBy .tally) = some o → o.leaving = false → o.dead = false →
    o.frame = .pic (.shiftOpen number driver opened) → s.node.w.con.request = some .shiftOpen →
    Answers (.lineWaitLimitExpiry (.fifo .tally)) s fun n =>
      n.core = s.node.core ∧ n.w.now = max s.node.w.now (o.offeredAt + waitLimit o.frame.cls) ∧ n.w.con.request = none ∧
        n.w.con.results = s.node.w.con.results ++ [some .lineBusy] ∧ Untouched [.now, .console] s.node.w n.w) ∧
  (∀ (s : State) (t : Time), s.node.core.serving = true → s.node.w.store.presence = some t →
    s.node.w.sel.has .status = false → Answers .presenceTimerExpiry s fun n =>
      n.core = s.node.core ∧ n.w.now = max s.node.w.now (t + sec 2) ∧ n.w.sel.has .status = true ∧
        Untouched [.now] s.node.w n.w) ∧
  (∀ (s : State) (x : Silence), (s.node.w.store.silence.find? fun y => y.station == x.station && !y.fired) = some x →
    Answers (.silenceTimerExpiry x.station) s fun n =>
      n.core = s.node.core ∧ n.w.now = max s.node.w.now (x.since + sec 6) ∧
        n.w.store.dropList = (if s.node.w.store.dropList.contains x.station then s.node.w.store.dropList
          else s.node.w.store.dropList ++ [x.station]) ∧
        n.w.store.silence = (s.node.w.store.silence.map fun y => if y.station = x.station then { y with fired := true } else y) ∧
        (s.node.core.inService = true → n.w.sel.has .silence = true) ∧
        n.w.store.presence = s.node.w.store.presence ∧ Untouched [.now, .store] s.node.w n.w)

/-- UNKNOWN_FRAME, a good frame that no other row takes (log 37): it counts for the last winner and, at a holder of the picture, for the sender's silence timer and DROP list; no owner takes it. A HIRE_COMMAND of an unknown command word is marked REFUSED by its addressee; no other is marked. -/
def Obligations.UnknownFrameIsOnlyHeard : Prop :=
  ∀ (s : State) (src : Station) (cls kind dest : Nat), s.node.core.serving = true →
    Answers (.unknownFrame src cls kind dest) s fun n =>
      n.core = s.node.core ∧ n.w.line.lastWinner = src ∧ n.w.line.round = false ∧
        n.w.line.mark = (if kind = 19 ∧ cls = 1 ∧ dest = s.node.core.me.val then some .refused else none) ∧
        n.w.store.dropList = (s.node.w.store.dropList.filter fun x => x != src) ∧
        n.w.store.silence =
          (s.node.w.store.silence.map fun x => if x.station = src then { x with since := s.node.w.now, fired := false } else x) ∧
        n.w.store.presence = s.node.w.store.presence ∧ Untouched [.line, .store] s.node.w n.w

/-! ## Picture-changing frames -/

/-- A picture-changing frame of another station at a node that holds the picture: the picture store applies it, the sender is the last winner, the sign of a sign node and of a HEAD follows the picture; clock, meter, join, ports and the console's results stay. What the units read in the picture it leaves, the card engine at a HELLO, STATUS, DROP, GIVE or SEIZE: an AUTH_WAIT whose gateway is gone or whose LANE is lost is decided by the offline check, and with the gateway gone a LANE still held is given back; a LANE_WAIT with no GATEWAY in service is decided so too, any other takes the lowest as its gateway (log 28) and asks for a LANE that has become free. A BAY with no call and no talk joins an announcement. A call without a talk whose peer is dropped or JOINING ends, the jitter queue draining (log 44) and the frame that stands in the CALL slot kept until its outcome (log 13). Forwarding in TAKING or SENDING with no GATEWAY in service or with LANE lost (log 63) withdraws a FORWARD not begun and gives LANE up, to try again. A stream whose reader no longer holds DRAIN stops. -/
def Obligations.PictureFrameApplied : Prop :=
  (∀ (s : State) (src : Station) (f : PicFrame), MeetsAsHolder src f s.node → Answers (frameCommand src f) s fun n =>
    n.core = { s.node.core with pic := some (s.node.core.view.apply src f).1 } ∧
      n.w.line.lastWinner = src ∧ n.w.line.mark = none ∧ n.w.line.round = false ∧
      (s.node.core.straps.sign = true ∨ s.node.core.straps.role = .head →
        (n.w.sign.state, n.w.sign.digit) = signOf n.core ∧ n.w.sign.overlay = !n.core.view.free .assist) ∧
      Untouched [.slot, .card, .records, .shift, .line, .store, .sign, .alerts, .call, .stream] s.node.w n.w) ∧
  (∀ (s : State) (src : Station) (f : PicFrame) (g : Station), MeetsAsHolder src f s.node → MovesRosterOrLane f →
    s.node.w.ret.card.txn = .authWait → s.node.w.ret.card.record.gateway = some g → Answers (frameCommand src f) s fun n =>
      let gone : Prop := ∀ e, n.core.view.entry g = some e → e.state ≠ .inService
      let held := n.core.view.holds .lane s.node.core.me
      (gone ∨ held = false → OfflineChecked n.core s.node.w n.w) ∧
      (gone → held = true → s.node.w.card.fwd.busy = false → s.node.w.sel.has .card = false →
        Offered .card (.pic (.give (some .lane))) n.w)) ∧
  (∀ (s : State) (src : Station) (f : PicFrame), MeetsAsHolder src f s.node → MovesRosterOrLane f →
    s.node.w.ret.card.txn = .laneWait → Answers (frameCommand src f) s fun n =>
      let k := s.node.w.ret.card
      (n.core.view.lowest .gateway = none → OfflineChecked n.core s.node.w n.w) ∧
      (∀ g, n.core.view.lowest .gateway = some g → n.w.ret.card.txn = .laneWait ∧
        n.w.ret.card.record = { k.record with gateway := some g } ∧ n.w.card.laneRun = s.node.w.card.laneRun ∧
        (s.node.w.card.laneAsk = .untilFree → n.core.view.free .lane = true → s.node.w.card.fwd.busy = false →
          s.node.w.sel.has .card = false → Offered .card (.pic (.take (some .lane) k.record.seq)) n.w))) ∧
  (∀ (s : State) (src : Station) (f : PicFrame) (h : Station), MeetsAsHolder src f s.node → s.node.core.straps.role = .bay →
    s.node.w.ic.call = .idle → s.node.w.ic.talk = .quiet → Answers (frameCommand src f) s fun n =>
      TalkAlone n.core s.node.w → n.core.view.claim .floor = ⟨some h, 16⟩ → n.core.view.hasRole h .head = true →
        CallIs n.w { s.node.w.ic with call := .connected, peer := some (.station h), outgoing := false, announce := true }) ∧
  (∀ (s : State) (src : Station) (f : PicFrame) (x : Station), MeetsAsHolder src f s.node → s.node.w.ic.call ≠ .idle →
    s.node.w.ic.peer = some (.station x) → s.node.w.ic.talk = .quiet → s.node.w.ret.slot.state.stands = true →
    s.node.w.ret.card.txn = .idle → Answers (frameCommand src f) s fun n =>
      let i := s.node.w.ic
      (n.core.view.entry x = none ∧ i.announce = false ∨ ∃ e, n.core.view.entry x = some e ∧ e.state = .joining) →
      (s.node.core.straps.role = .head ∨ n.core.view.free .floor = true) →
        CallIs n.w (i.drain.ended (if i.call = .connected ∧ i.announce = true then i.list
          else if i.handed then i.list.take 1 else []))) ∧
  (∀ (s : State) (src : Station) (f : PicFrame), MeetsAsHolder src f s.node →
    (s.node.w.card.fwd = .taking ∨ s.node.w.card.fwd = .sending) → Answers (frameCommand src f) s fun n =>
      let lost : Prop := s.node.core.view.holds .lane s.node.core.me = true ∧ n.core.view.holds .lane s.node.core.me = false
      n.core.view.inService .gateway = false ∨ lost →
        n.w.card.fwd = .giving ∧ n.w.card.retry = true ∧ n.w.sel.waitForward = none ∧
        (∀ o, n.w.sel.bulk = some o → o.frame.isForward = true → 0 < o.attempts) ∧
        (s.node.w.sel.has .card = false → Offered .card (.pic (.give (some .lane))) n.w)) ∧
  (∀ (s : State) (src : Station) (f : PicFrame) (x : Machine.Stream), MeetsAsHolder src f s.node → s.node.w.stream = some x →
    Answers (frameCommand src f) s fun n =>
      let half := s.node.w.ret.journal.half x.half
      n.core.view.holds .drain x.reader = false →
        n.w.stream = none ∧ n.w.ret.journal.half x.half = { half with state := .ready, streamed := none })

/-- Two stations of one number, and a DROP of this node: a STATUS of this node's number that it did not send makes it HALTED; a HELLO of it at a holder makes it offer STATUS, or, while its STATUS is begun, owe another after that one; at a joining node it makes it HALTED; a DROP of it makes it JOINING with its HELLO offered, one still in the selector standing for it (log 45), and its slot suspended; a second HEAD in service halts the HEAD of the higher number. -/
def Obligations.OwnNumberOnTheLine : Prop :=
  (∀ (s : State) (st : StatusPay), s.node.core.serving = true ∨ s.node.core.node.joining? = true →
    s.node.sends s.node.core.me (.pic (.status st)) = false → Answers (.status s.node.core.me st) s fun n =>
      n.core = { s.node.core with node := .halted, halt := some .duplicateStation, pic := none } ∧ n.w.join = Join.init) ∧
  (∀ (s : State) (h : HelloPay), s.node.core.node.joining? = true → s.node.sends s.node.core.me (.pic (.hello h)) = false →
    Answers (.hello s.node.core.me h) s fun n =>
      n.core = { s.node.core with node := .halted, halt := some .duplicateStation, pic := none } ∧ n.w.join = Join.init) ∧
  (∀ (s : State) (h : HelloPay), s.node.core.serving = true → s.node.sends s.node.core.me (.pic (.hello h)) = false →
    Answers (.hello s.node.core.me h) s fun n =>
      n.core = { s.node.core with pic := some (s.node.core.view.apply s.node.core.me (.hello h)).1 } ∧
        n.w.sel.has .status = true ∧ (s.node.w.sel.statusBegun = true → n.w.store.statusOwed = true)) ∧
  (∀ (s : State) (src : Station), s.node.core.serving = true → s.node.sends src (.pic (.drop s.node.core.me)) = false →
    Answers (.drop src s.node.core.me) s fun n =>
      let tag : Option Tag := if s.node.w.ret.slot.state = .free then none else some s.node.w.ret.slot.tag
      n.core = { s.node.core with node := .joining, halt := none, pic := none } ∧ n.w.sel.has .join = true ∧
        (s.node.w.sel.has .join = false → Offered .join (.pic (.hello (HelloFrom s.node.core tag))) n.w) ∧
        n.w.store = Store.init ∧ n.w.join = Join.init ∧ n.w.ret.slot.state = s.node.w.ret.slot.state.suspend ∧
        n.w.shift.phase = .none ∧ n.w.line.objections = 0 ∧ n.w.ic.call = .idle ∧
        Untouched [.slot, .card, .records, .shift, .line, .store, .join, .sign, .alerts, .call, .stream, .console]
          s.node.w n.w) ∧
  (∀ (s : State) (src : Station) (f : PicFrame), s.node.core.serving = true → s.node.sends src (.pic f) = false →
    f ≠ .drop s.node.core.me → (∀ st, f = .status st → src ≠ s.node.core.me) →
    outranked s.node.core s.node.core.view (s.node.core.view.apply src f).1 src = true →
    Answers (frameCommand src f) s fun n =>
      n.core = { s.node.core with node := .halted, halt := some .duplicateHead, pic := none })

/-- One frame applied: its result and its change are those of its rule, and the picture sequence advances by 1, but for a STATUS that leaves its sender's entry as it was; the vehicle digest never changes. -/
def Obligations.PictureSequenceCountsFrames : Prop :=
  ∀ (p : Picture) (src : Station) (f : PicFrame),
    (p.apply src f).2 = (p.effect src f).2 ∧
    { (p.apply src f).1 with seq := p.seq } = { (p.effect src f).1 with seq := p.seq } ∧
    (p.apply src f).1.digest = p.digest ∧
    ((∀ st, f ≠ .status st) → (p.apply src f).1.seq = p.seq + 1) ∧
    (∀ st, f = .status st →
      ((p.apply src f).1.entry src = p.entry src → (p.apply src f).1.seq = p.seq) ∧
      ((p.apply src f).1.entry src ≠ p.entry src → (p.apply src f).1.seq = p.seq + 1))

/-- HELLO adds or replaces its sender's entry, which is then JOINING, an existing one keeping its flags and forward count; STATUS replaces state, flags and count of an existing entry and nothing of an absent one; DROP removes the entry, frees FLOOR, LANE, CLOSE and DRAIN where the station holds them, and orphans its hirings. HELLO and STATUS of values out of range, a TAKE, GIVE or SEIZE whose word names no word (log 16), and a TAKE_SET whose set does not name seats or whose tag has sequence 0, change nothing. -/
def Obligations.RosterFrames : Prop :=
  (∀ (p : Picture) (src : Station) (h : HelloPay), rosterOrdered p.roster = true →
    (∀ r, h.role = some r → h.mask &&& 0xC0#8 = 0#8 → (∀ t, h.tag = some t → t.seq ≠ 0) →
      ∃ e, (p.effect src (.hello h)).1.entry src = some e ∧ e.station = src ∧ e.role = r ∧ e.sign = h.sign ∧
        e.odometer = h.odometer ∧ e.mask = h.mask ∧ e.digest = h.digest ∧ e.state = .joining ∧ e.announced = h.tag ∧
        (p.entry src = none → e.lockout = false ∧ e.halfA = false ∧ e.halfB = false ∧ e.fwd = 0) ∧
        (∀ old, p.entry src = some old → e.lockout = old.lockout ∧ e.halfA = old.halfA ∧ e.halfB = old.halfB ∧ e.fwd = old.fwd)) ∧
    (∀ t, t ≠ src → (p.effect src (.hello h)).1.entry t = p.entry t) ∧
    { (p.effect src (.hello h)).1 with roster := p.roster } = p ∧
    (h.role = none ∨ h.mask &&& 0xC0#8 ≠ 0#8 ∨ (∃ t, h.tag = some t ∧ t.seq = 0) → (p.effect src (.hello h)).1 = p)) ∧
  (∀ (p : Picture) (src : Station) (st : StatusPay), rosterOrdered p.roster = true →
    (∀ e x, p.entry src = some e → st.state = some x → x ≠ .joining → st.fwd ≤ 4 →
      (p.effect src (.status st)).1.entry src =
        some { e with state := x, lockout := st.lockout, halfA := st.halfA, halfB := st.halfB, fwd := st.fwd }) ∧
    (∀ t, t ≠ src → (p.effect src (.status st)).1.entry t = p.entry t) ∧
    { (p.effect src (.status st)).1 with roster := p.roster } = p ∧
    (p.entry src = none ∨ st.state = none ∨ st.state = some .joining ∨ 4 < st.fwd → (p.effect src (.status st)).1 = p)) ∧
  (∀ (p : Picture) (src t : Station), p.entry t ≠ none → ∃ q, p.effect src (.drop t) = (q, .done) ∧
    q.entry t = none ∧ (∀ x, x ≠ t → q.entry x = p.entry x) ∧
    (∀ w, q.claim w = if (p.claim w).holder = some t ∧ (w = .floor ∨ w = .lane ∨ w = .close ∨ w = .drain)
      then ⟨none, 0⟩ else p.claim w) ∧
    q.hirings = (p.hirings.map fun h => match h.state with
      | .active st => if h.tag.home = t then { h with state := .orphaned st } else h
      | .orphaned _ => h) ∧
    q.shift = p.shift) ∧
  (∀ (p : Picture) (src t : Station), p.entry t = none → p.effect src (.drop t) = (p, .done)) ∧
  (∀ (p : Picture) (src : Station) (tag : BitVec 16), p.effect src (.take none tag) = (p, .busy) ∧
    p.effect src (.give none) = (p, .notFreed) ∧ p.effect src (.seize none tag) = (p, .busy)) ∧
  (∀ (p : Picture) (src : Station) (seats : SeatSet) (tag : Tag), seats &&& 0xC0#8 ≠ 0#8 ∨ tag.seq = 0 →
    p.effect src (.takeSet seats tag) = (p, .busy))

/-- TAKE: a sender without the right to the word is BUSY; with it, a free word is WON with the frame's tag, its own is ALREADY, tag included, another station's is BUSY. GIVE frees a word its sender holds, SHIFT and CLOSE excepted; SEIZE gives FLOOR or LANE to a HEAD in service whoever held it; every other GIVE or SEIZE changes nothing. A word set leaves the other eleven as they are. -/
def Obligations.WordFrames : Prop :=
  (∀ (c : Claims) (w w' : WordId) (v : Claim), (c.set w v).get w' = if w' = w then v else c.get w') ∧
  (∀ (p : Picture) (src : Station) (w : WordId),
    ((p.claim w).holder = some src → w ≠ .shift → w ≠ .close →
      p.effect src (.give (some w)) = ({ p with claims := p.claims.set w ⟨none, 0⟩ }, .freed)) ∧
    ((p.claim w).holder ≠ some src ∨ w = .shift ∨ w = .close → p.effect src (.give (some w)) = (p, .notFreed))) ∧
  (∀ (p : Picture) (src : Station) (w : WordId) (tag : BitVec 16),
    (InServiceHead p src → w = .floor ∧ tag.toNat ≤ 16 ∨ w = .lane →
      p.effect src (.seize (some w) tag) = ({ p with claims := p.claims.set w ⟨some src, tag⟩ }, .won)) ∧
    (¬InServiceHead p src ∨ ¬(w = .floor ∧ tag.toNat ≤ 16 ∨ w = .lane) →
      p.effect src (.seize (some w) tag) = (p, .busy))) ∧
  (∀ (p : Picture) (src : Station) (w : WordId) (tag : BitVec 16),
      (¬MayTake p src w tag → p.effect src (.take (some w) tag) = (p, .busy)) ∧
      (MayTake p src w tag → (p.claim w).holder = none →
        p.effect src (.take (some w) tag) = ({ p with claims := p.claims.set w ⟨some src, tag⟩ }, .won)) ∧
      (MayTake p src w tag → (p.claim w).holder = some src → p.effect src (.take (some w) tag) = (p, .already)) ∧
      (∀ t, MayTake p src w tag → (p.claim w).holder = some t → t ≠ src → p.effect src (.take (some w) tag) = (p, .busy)))

/-- TAKE_SET of fields in range takes all the seats of its set or none: an empty set, a tag of another home, a sender that is no CN40 in service, or a seat held otherwise is BUSY; all held under the tag is ALREADY; else every free seat of the set becomes the sender's under the tag. -/
def Obligations.TakeSetTakesAllOrNothing : Prop :=
  ∀ (p : Picture) (src : Station) (seats : SeatSet) (tag : Tag), seats &&& 0xC0#8 = 0#8 → tag.seq ≠ 0 →
    let right : Prop := seats ≠ 0 ∧ tag.home = src ∧ p.cn40 src = true
    let mine (i : Fin 6) : Prop := p.claim (.seat i) = ⟨some src, tag.code⟩
    let free (i : Fin 6) : Prop := (p.claim (.seat i)).holder = none
    let inSet (i : Fin 6) : Prop := seats.getLsbD i.val = true
    (¬right → p.effect src (.takeSet seats tag) = (p, .busy)) ∧
    (right → (∀ i, inSet i → mine i) → p.effect src (.takeSet seats tag) = (p, .already)) ∧
    (right → (∃ i, inSet i ∧ ¬mine i ∧ ¬free i) → p.effect src (.takeSet seats tag) = (p, .busy)) ∧
    (right → (∀ i, inSet i → mine i ∨ free i) → (∃ i, inSet i ∧ ¬mine i) →
      ∃ q, p.effect src (.takeSet seats tag) = (q, .won) ∧ { q with claims := p.claims } = p ∧
        (∀ i, inSet i → q.claim (.seat i) = ⟨some src, tag.code⟩) ∧
        (∀ i, ¬inSet i → q.claim (.seat i) = p.claim (.seat i)) ∧
        (∀ w, (∀ i, w ≠ .seat i) → q.claim w = p.claim w))

/-- The four shift frames: SHIFT_OPEN of a HEAD in service with SHIFT free takes SHIFT and sets the record; CLOSE_CALL of it for the open shift takes a free CLOSE; CLOSE_ABANDON of the holder frees CLOSE; CLOSE_COMMIT of the holder for CLOSE's shift frees both. Every other one is refused and changes nothing. -/
def Obligations.ShiftFrames : Prop :=
  ∀ (p : Picture) (src : Station) (n : Nat),
    (∀ (d : Nat) (o : Stamp),
      let ok : Prop := InServiceHead p src ∧ (p.claim .shift).holder = none ∧ 1 ≤ n ∧ n ≤ 65535 ∧ 1 ≤ d ∧ d ≤ 9999
      (ok → p.effect src (.shiftOpen n d o) =
        ({ p with claims := p.claims.set .shift ⟨some src, BitVec.ofNat 16 n⟩, shift := some ⟨n, d, o⟩ }, .done)) ∧
      (¬ok → ∃ r, p.effect src (.shiftOpen n d o) = (p, .refused r))) ∧
    (∀ force : Bool,
      let ok : Prop := InServiceHead p src ∧ (p.claim .shift).holder ≠ none ∧ (p.claim .close).holder = none ∧
        (p.claim .shift).tag.toNat = n
      (ok → p.effect src (.closeCall n force) =
        ({ p with claims := p.claims.set .close ⟨some src, BitVec.ofNat 16 n⟩ }, .done)) ∧
      (¬ok → ∃ r, p.effect src (.closeCall n force) = (p, .refused r))) ∧
    ((p.claim .close).holder = some src →
      p.effect src .closeAbandon = ({ p with claims := p.claims.set .close ⟨none, 0⟩ }, .done)) ∧
    ((p.claim .close).holder ≠ some src → ∃ r, p.effect src .closeAbandon = (p, .refused r)) ∧
    (∀ force : Bool,
      ((p.claim .close).holder = some src ∧ (p.claim .close).tag.toNat = n →
        p.effect src (.closeCommit n force) =
          ({ p with claims := (p.claims.set .shift ⟨none, 0⟩).set .close ⟨none, 0⟩ }, .done)) ∧
      (¬((p.claim .close).holder = some src ∧ (p.claim .close).tag.toNat = n) →
        ∃ r, p.effect src (.closeCommit n force) = (p, .refused r)))

/-- HIRE_OPEN is refused with the reason of the first of its nine checks that fails, a mode that is neither at check 8 (log 16), and else adds a RUNNING entry at the end; HIRE_RECLAIM for a tag that no entry carries makes the checks 2, 3, 4, 7, 8 and 9 and takes the frame's state; for an entry of its sender, its set naming seats, it restores an orphan's prior state, and gives another entry the frame's state. Every HIRE_RECLAIM done removes the sender's announced tag. For an entry of its sender a set that names no seat is refused NO_SEATS, a state or a mode out of range WRONG_STATE; for a new entry such a state is refused WRONG_STATE after the checks (log 16). -/
def Obligations.HireOpenAndReclaim : Prop :=
  (∀ (p : Picture) (src : Station) (tag : Tag) (mode : Option Mode) (seats : SeatSet) (start : Stamp),
    let failed := (openChecks p src tag mode seats).find? fun c => !c.2.1
    (∀ k r, failed = some (k, false, r) → p.effect src (.hireOpen tag mode seats start) = (p, .refused r)) ∧
    (failed = none → ∃ m, mode = some m ∧ p.effect src (.hireOpen tag mode seats start) =
      ({ p with hirings := p.hirings ++ [⟨tag, m, seats, .active .running, start⟩] }, .done))) ∧
  (∀ (p : Picture) (src : Station) (tag : Tag) (st : Option HireState) (mode : Option Mode) (seats : SeatSet) (start : Stamp),
    let done (l : List HiringEntry) : Picture × PicResult :=
      ({ p with hirings := l, roster := p.roster.map fun e => if e.station = src then { e with announced := none } else e }, .done)
    let become (x : HireState) : List HiringEntry :=
      p.hirings.map fun h => if h.tag = tag then { h with state := .active x } else h
    p.effect src (.hireReclaim tag st mode seats start) =
      if p.cn40 src = false then (p, .refused .notInService)
      else match p.hiring tag with
        | some h =>
          if tag.home ≠ src then (p, .refused .wrongState)
          else if seats = 0 ∨ seats &&& 0xC0#8 ≠ 0#8 then (p, .refused .noSeats)
          else match st, mode, h.state with
            | some _, some _, .orphaned prior => done (become prior)
            | some x, some _, .active _ => done (become x)
            | _, _, _ => (p, .refused .wrongState)
        | none =>
          match (((openChecks p src tag mode seats).filter fun c => [2, 3, 4, 7, 8, 9].contains c.1).find? fun c => !c.2.1),
              st, mode with
          | some (_, _, r), _, _ => (p, .refused r)
          | none, some x, some m => done (p.hirings ++ [⟨tag, m, seats, .active x, start⟩])
          | none, _, _ => (p, .refused .wrongState))

/-- HIRE_STATE of the home station gives its entry the frame's state; it is refused for a tag of another home or that no entry carries, for an orphan, from PAYING to another state, to RUNNING with no HEAD in service, and, with WRONG_STATE, for a state out of range (log 16). HIRE_CLOSE is accepted from the home station of an entry, and from a HEAD in service for an orphan whose tag no JOINING entry announces: the entry is removed, an orphan's seat words are freed whoever holds them, any other keeps its seats. Else it is refused: NO_SUCH_HIRING without an entry, WRONG_STATE with one. -/
def Obligations.HireStateAndClose : Prop :=
  (∀ (p : Picture) (src : Station) (tag : Tag) (st : Option HireState),
    (tag.home ≠ src ∨ p.hiring tag = none → p.effect src (.hireState tag st) = (p, .refused .noSuchHiring)) ∧
    (∀ h, tag.home = src → p.hiring tag = some h →
      (∀ prior, h.state = .orphaned prior → p.effect src (.hireState tag st) = (p, .refused .wrongState)) ∧
      (h.state = .active .paying → st ≠ some .paying → p.effect src (.hireState tag st) = (p, .refused .wrongState)) ∧
      (∀ old, h.state = .active old → st = none → p.effect src (.hireState tag st) = (p, .refused .wrongState)) ∧
      (∀ old, h.state = .active old → old ≠ .paying → st = some .running → p.headIn = false →
        p.effect src (.hireState tag st) = (p, .refused .headLost)) ∧
      (∀ old y, h.state = .active old → st = some y → ¬(old = .paying ∧ y ≠ .paying) → ¬(y = .running ∧ p.headIn = false) →
        p.effect src (.hireState tag st) =
          ({ p with hirings := p.hirings.map fun x => if x.tag = tag then { x with state := .active y } else x }, .done)))) ∧
  (∀ (p : Picture) (src : Station) (tag : Tag),
    (p.hiring tag = none → p.effect src (.hireClose tag) = (p, .refused .noSuchHiring)) ∧
    (∀ h, p.hiring tag = some h →
      let may : Prop := tag.home = src ∨
        InServiceHead p src ∧ h.isOrphan = true ∧ ¬∃ e ∈ p.roster, e.state = .joining ∧ e.announced = some tag
      (¬may → p.effect src (.hireClose tag) = (p, .refused .wrongState)) ∧
      (may → ∃ q, p.effect src (.hireClose tag) = (q, .done) ∧
        q.hirings = (p.hirings.filter fun x => x.tag != tag) ∧ q.roster = p.roster ∧ q.shift = p.shift ∧
        (∀ w, (∀ i, w ≠ .seat i) → q.claim w = p.claim w) ∧
        (∀ i, q.claim (.seat i) =
          if h.isOrphan = true ∧ (p.claim (.seat i)).tag = tag.code ∧ (p.claim (.seat i)).holder ≠ none
          then ⟨none, 0⟩ else p.claim (.seat i)))))

/-! ## Joining -/

/-- A picture-changing frame of another station at a JOINING node, or at a FOUNDING one whose founding it does not end: HELLO is heard with its role, a STATUS of IN_SERVICE is evidence of a picture; once a SNAPSHOT_ASK of this node has completed the frame joins the catch-up list of 16, and with the list full the parts are discarded and the re-ask timer of 1 s runs (log 20). A SNAPSHOT_ASK is heard; a SNAPSHOT to another station is evidence too. A HELLO whose role is out of range leaves the role heard before (log 50). A founding not begun gives way: at a HELLO or SNAPSHOT_ASK of a lower number, a STATUS of IN_SERVICE, or a SNAPSHOT to any station, the node is JOINING again, its re-ask timer of 1 s running and its catch-up list kept, with the frame that ended the founding where it is one that changes the picture (log 20). -/
def Obligations.JoiningNodeHears : Prop :=
  (∀ (s : State) (src : Station) (f : PicFrame), src ≠ s.node.core.me →
    (s.node.core.node = .joining ∨ s.node.core.node = .founding ∧ ((s.node.w.sel.waiting? .join).isSome = false ∨
      ((∀ h, f ≠ .hello h) ∨ s.node.core.me < src) ∧ ∀ st, f = .status st → st.state ≠ some .inService)) →
    Answers (frameCommand src f) s fun n =>
      let j := s.node.w.join
      n.core = s.node.core ∧ n.w.line.lastWinner = src ∧
      (∀ h, f = .hello h → n.w.join.heard = (j.heard.filter fun e => e.1 != src) ++ [(src, s.node.w.now)] ∧
        n.w.join.roles = (match h.role with
          | some r => (j.roles.filter fun e => e.1 != src) ++ [(src, r)]
          | none => j.roles)) ∧
      ((∀ h, f ≠ .hello h) → n.w.join.heard = j.heard ∧ n.w.join.roles = j.roles) ∧
      (∀ st, f = .status st → st.state = some .inService → n.w.join.evidence = some s.node.w.now) ∧
      ((∀ st, f = .status st → st.state ≠ some .inService) → n.w.join.evidence = j.evidence) ∧
      (j.asked = false → n.w.join.caught = j.caught ∧ n.w.join.parts = j.parts ∧ n.w.join.limit = j.limit ∧
        n.w.join.reask = j.reask) ∧
      (j.asked = true → j.caught.length < 16 → n.w.join.caught = j.caught ++ [⟨src, f, j.parts.length⟩] ∧
        n.w.join.limit = j.limit ∧ n.w.join.parts = j.parts ∧ n.w.join.reask = j.reask) ∧
      (j.asked = true → 16 ≤ j.caught.length →
        n.w.join.caught = [] ∧ n.w.join.parts = [] ∧ n.w.join.limit = none ∧ n.w.join.reask = some (s.node.w.now + sec 1)) ∧
      Untouched [.line, .join] s.node.w n.w) ∧
  (∀ (s : State) (src : Station), s.node.core.node = .joining → src ≠ s.node.core.me → Answers (.snapshotAsk src) s fun n =>
    n.core = s.node.core ∧ n.w.line.lastWinner = src ∧
      n.w.join = { s.node.w.join with
        heard := (s.node.w.join.heard.filter fun e => e.1 != src) ++ [(src, s.node.w.now)] } ∧
      Untouched [.line, .join] s.node.w n.w) ∧
  (∀ (s : State) (src dst : Station) (p : SnapPart), s.node.core.node = .joining → dst ≠ s.node.core.me →
    Answers (.snapshot src dst p) s fun n =>
      n.core = s.node.core ∧ n.w.line.lastWinner = src ∧ n.w.line.mark = none ∧
        n.w.join = { s.node.w.join with evidence := some s.node.w.now } ∧ Untouched [.line, .join] s.node.w n.w) ∧
  (∀ (s : State) (src dst : Station) (p : SnapPart), s.node.core.node = .founding →
    (s.node.w.sel.waiting? .join).isSome = true → Answers (.snapshot src dst p) s fun n =>
      n.core = { s.node.core with node := .joining, halt := none, pic := none } ∧
        n.w.line.mark = (if dst = s.node.core.me then some .taken else none) ∧
        n.w.join = { s.node.w.join with
          evidence := some s.node.w.now, limit := none, reask := some (s.node.w.now + sec 1) } ∧
        Untouched [.line, .join] s.node.w n.w) ∧
  (∀ (s : State) (src : Station) (f : PicFrame), s.node.core.node = .founding → src ≠ s.node.core.me →
    (s.node.w.sel.waiting? .join).isSome = true →
    ((∃ h, f = .hello h) ∧ src < s.node.core.me ∨ ∃ st, f = .status st ∧ st.state = some .inService) →
    Answers (frameCommand src f) s fun n =>
      let j := s.node.w.join
      n.core = { s.node.core with node := .joining, halt := none, pic := none } ∧
        n.w.join.reask = some (s.node.w.now + sec 1) ∧ n.w.join.limit = none ∧
        (j.asked = false → n.w.join.caught = j.caught ∧ n.w.join.parts = j.parts) ∧
        (j.asked = true → j.caught.length < 16 →
          n.w.join.caught = j.caught ++ [⟨src, f, j.parts.length⟩] ∧ n.w.join.parts = j.parts) ∧
        (j.asked = true → 16 ≤ j.caught.length → n.w.join.caught = [] ∧ n.w.join.parts = []) ∧
        Untouched [.line, .join] s.node.w n.w) ∧
  (∀ (s : State) (src : Station), s.node.core.node = .founding → src < s.node.core.me →
    (s.node.w.sel.waiting? .join).isSome = true → Answers (.snapshotAsk src) s fun n =>
      n.core = { s.node.core with node := .joining, halt := none, pic := none } ∧
        n.w.join = { s.node.w.join with
          heard := (s.node.w.join.heard.filter fun e => e.1 != src) ++ [(src, s.node.w.now)],
          limit := none, reask := some (s.node.w.now + sec 1) } ∧
        Untouched [.line, .join] s.node.w n.w)

/-- SNAPSHOT_ASK at the holder that answers, not serving yet: it freezes its picture for the joiner, and part 0 with the picture sequence of this moment waits for the BULK slot or stands in it. A holder that does not answer, or serves already, changes nothing of the join. SNAPSHOT to a joiner while its snapshot limit runs is marked TAKEN: the next part of the same answer is held, any other starts the re-ask timer; the last of three parts that agree gives the picture, adopted IN_SERVICE with the vehicle digest, as LISTENER with another; a picture that shows this number in service, or another HEAD to a HEAD, halts the node. Three parts that are at odds, or whose copy breaks the laws of a picture (log 20), start the re-ask timer. With no limit running, or while its founding STATUS is begun, the node marks it TAKEN and discards it. A holder refuses a SNAPSHOT (log 25). -/
def Obligations.Snapshots : Prop :=
  (∀ (s : State) (src : Station), s.node.core.serving = true → s.node.sends src .snapshotAsk = false →
    Answers (.snapshotAsk src) s fun n =>
      let p := s.node.core.view
      let part : Frame := .snapshot src ⟨p.seq, p.seq, .roster p.roster⟩
      n.core = s.node.core ∧ n.w.line.lastWinner = src ∧
      (rosterOrdered p.roster = true → s.node.w.join.serving = none → AnswersAsks s.node.core →
        n.w.join = { s.node.w.join with serving := some ⟨src, p, 0⟩ } ∧
        (n.w.sel.waitSnapshot = some part ∨ ∃ o, n.w.sel.bulk = some o ∧ o.frame = part)) ∧
      (rosterOrdered p.roster = true → s.node.w.join.serving ≠ none ∨ ¬AnswersAsks s.node.core →
        n.w.join = s.node.w.join) ∧
      Untouched [.line, .store, .join] s.node.w n.w) ∧
  (∀ (s : State) (src : Station) (p : SnapPart), s.node.core.node = .joining → s.node.w.join.limit ≠ none →
    Answers (.snapshot src s.node.core.me p) s fun n =>
      let j := s.node.w.join
      let fits : Prop := p.content.no = j.parts.length ∧
        (∀ p0, j.parts.head? = some p0 → j.answerer = some src ∧ p0.base = p.base)
      let held : Join := { j with evidence := some s.node.w.now, parts := j.parts ++ [p], answerer := some src }
      n.w.line.mark = some .taken ∧ n.w.line.lastWinner = src ∧
      (fits → j.parts.length < 2 → n.core = s.node.core ∧ n.w.join = held ∧ Untouched [.line, .join] s.node.w n.w) ∧
      (¬fits ∨ 2 ≤ j.parts.length ∧ (∀ q, ¬Assembled held q) → n.core = s.node.core ∧ n.w.join.parts = [] ∧ n.w.join.caught = [] ∧
        n.w.join.limit = none ∧ n.w.join.reask = some (s.node.w.now + sec 1) ∧ Untouched [.line, .join] s.node.w n.w) ∧
      (∀ q, fits → 2 ≤ j.parts.length → Assembled held q →
        (q.declared s.node.core.me = true →
          n.core = { s.node.core with node := .halted, halt := some .duplicateStation, pic := none }) ∧
        (q.declared s.node.core.me = false → s.node.core.straps.role = .head → q.otherHead s.node.core.me false = true →
          n.core = { s.node.core with node := .halted, halt := some .duplicateHead, pic := none }) ∧
        (q.declared s.node.core.me = false → (s.node.core.straps.role = .head → q.otherHead s.node.core.me false = false) →
          n.core = { s.node.core with
            node := if s.node.core.digest = q.digest then .inService else .listener, halt := none, pic := some q } ∧
          n.w.join.announcing = (if q.entry s.node.core.me = none then .hello else .status) ∧
          n.w.store.presence = some s.node.w.now ∧ n.w.store.dropList = [] ∧
          n.w.store.silence = ((q.roster.filter fun e => e.station != s.node.core.me).map fun e => ⟨e.station, s.node.w.now, false⟩)))) ∧
  (∀ (s : State) (src : Station) (p : SnapPart),
    (s.node.core.node = .joining ∧ s.node.w.join.limit = none ∨
      s.node.core.node = .founding ∧ s.node.w.sel.waiting? .join = none) → Answers (.snapshot src s.node.core.me p) s fun n =>
      n.core = s.node.core ∧ n.w.line.mark = some .taken ∧
        n.w.join = { s.node.w.join with evidence := some s.node.w.now } ∧ Untouched [.line, .join] s.node.w n.w) ∧
  (∀ (s : State) (src : Station) (p : SnapPart), s.node.core.serving = true →
    Answers (.snapshot src s.node.core.me p) s fun n =>
      n.core = s.node.core ∧ n.w.line.mark = some .refused ∧ Untouched [.line, .store] s.node.w n.w)

/-- The join's timers. At the completion of this node's HELLO the listen timer of 300 ms starts, at that of its SNAPSHOT_ASK the snapshot limit of 500 ms, with parts and catch-up list cleared and the re-ask timer at rest (log 20). A completed SNAPSHOT_ASK that is this node's own is its FRAME_OUTCOME with no mark, by the model's choice (log 5). DETACHED_TIMER: JOINING with HELLO offered. LISTEN_TIMER and REASK_TIMER: SNAPSHOT_ASK is offered. SNAPSHOT_LIMIT: with no part held, no evidence of a picture within 2.5 s and no lower number heard the node is FOUNDING and offers STATUS; else the re-ask timer runs, the catch-up list kept with no part held and discarded with the parts (log 20). HEARD_ENTRY: the station's entry goes. Each takes the time base to its moment (log 3). -/
def Obligations.JoinTimers : Prop :=
  (∀ (s : State) (t : Time), s.node.w.join.detached = some t → Answers .detachedTimerExpiry s fun n =>
    n.core = { s.node.core with node := .joining, halt := none, pic := none } ∧ n.w.now = max s.node.w.now t ∧
      n.w.join = Join.init ∧ n.w.sel.has .join = true ∧ n.w.line.objections = 0 ∧
      (s.node.w.sel.has .join = false → Offered .join (.pic (.hello (HelloFrom s.node.core
        (if s.node.w.ret.slot.state = .free then none else some s.node.w.ret.slot.tag)))) n.w) ∧
      Untouched [.now, .line, .join] s.node.w n.w) ∧
  (∀ (s : State) (t : Time), s.node.core.node = .joining → s.node.w.join.listen = some t → Answers .listenTimerExpiry s fun n =>
    n.core = s.node.core ∧ n.w.now = max s.node.w.now t ∧ n.w.join = { s.node.w.join with listen := none } ∧
      (s.node.w.sel.has .join = false → Offered .join .snapshotAsk n.w) ∧ Untouched [.now, .join] s.node.w n.w) ∧
  (∀ (s : State) (t : Time), s.node.core.node = .joining → s.node.w.join.reask = some t → Answers .reaskTimerExpiry s fun n =>
    n.core = s.node.core ∧ n.w.now = max s.node.w.now t ∧ n.w.join = { s.node.w.join with reask := none } ∧
      (s.node.w.sel.has .join = false → Offered .join .snapshotAsk n.w) ∧ Untouched [.now, .join] s.node.w n.w) ∧
  (∀ (s : State) (t : Time), s.node.w.join.limit = some t → Answers .snapshotLimitExpiry s fun n =>
    let j := s.node.w.join
    let now := max s.node.w.now t
    let founds : Prop := j.parts = [] ∧ (∀ e, j.evidence = some e → ms 2500 < now - e) ∧ ∀ e ∈ j.heard, s.node.core.me < e.1
    n.w.now = now ∧
    (founds → n.core = { s.node.core with node := .founding, halt := none, pic := none } ∧
      n.w.join = { j with limit := none } ∧ n.w.sel.has .join = true ∧
      (s.node.w.sel.has .join = false → Offered .join (.pic (.status
        ⟨some .inService, s.node.w.ret.journal.lockout, s.node.w.ret.journal.halfA.state.waiting,
          s.node.w.ret.journal.halfB.state.waiting, s.node.w.ret.card.forward.length⟩)) n.w) ∧ Untouched [.now, .join] s.node.w n.w) ∧
    (¬founds → n.core = s.node.core ∧ n.w.sel = s.node.w.sel ∧ Untouched [.now, .join] s.node.w n.w ∧
      (j.parts = [] → n.w.join = { j with limit := none, reask := some (now + sec 1) }) ∧
      (j.parts ≠ [] → n.w.join =
        { j with parts := [], caught := [], answerer := none, limit := none, reask := some (now + sec 1) }))) ∧
  (∀ (s : State) (x : Station) (t : Time), (s.node.w.join.heard.find? fun e => e.1 == x) = some (x, t) →
    Answers (.heardEntryExpiry x) s fun n =>
      n.core = s.node.core ∧ n.w.now = max s.node.w.now (t + sec 3) ∧
        n.w.join = { s.node.w.join with heard := s.node.w.join.heard.filter fun e => e.1 != x } ∧
        n.w.sel = s.node.w.sel ∧ Untouched [.now, .join] s.node.w n.w) ∧
  (∀ (s : State) (m : Marks) (k : SlotId) (o : Offer) (h : HelloPay), OnAir s.node k o → m.object = false →
    s.node.core.node = .joining → o.frame = .pic (.hello h) → Answers (.frameOutcome m) s fun n =>
      n.core = s.node.core ∧ n.w.join = { s.node.w.join with listen := some (s.node.w.now + ms 300), helloTag := h.tag } ∧
        Untouched [.line, .join] s.node.w n.w) ∧
  (∀ (s : State) (m : Marks) (k : SlotId) (o : Offer), OnAir s.node k o → m.object = false →
    s.node.core.node = .joining → o.frame = .snapshotAsk → Answers (.frameOutcome m) s fun n =>
      n.core = s.node.core ∧
        n.w.join = { s.node.w.join with
          asked := true, parts := [], caught := [], answerer := none, limit := some (s.node.w.now + ms 500), reask := none } ∧
        Untouched [.line, .join] s.node.w n.w) ∧
  (∀ (s : State) (src : Station), s.node.sends src .snapshotAsk = true →
    exec (.snapshotAsk src) s = exec (.frameOutcome ⟨false, false, false⟩) s)

/-! ## Hirings -/

/-- A HIRE_COMMAND that the addressee may obey, from the HEAD in service: it is marked TAKEN and makes of the slot what its rule says; a slot with nothing left to pay closes. At an addressee that may not obey it, it is marked REFUSED and changes nothing, but for the START_REFUSED that a START refused by the preconditions of a start raises, at a LISTENER too (log 19); one for another node is not marked. -/
def Obligations.HireCommandDecided : Prop :=
  (∀ (s : State) (src : Station) (cmd : HireCmd), s.node.core.node = .inService → InServiceHead s.node.core.view src →
    Obeys s.node.core s.node.w cmd → Answers (hireFrame src s.node.core.me cmd) s fun n =>
      n.core = s.node.core ∧ n.w.line.mark = some .taken ∧ n.w.line.lastWinner = src ∧
        Obeyed s.node.core s.node.w n.w cmd ∧
        Untouched [.slot, .records, .line, .store, .alerts, .call] s.node.w n.w) ∧
  (∀ (s : State) (src : Station) (cmd : HireCmd), s.node.core.serving = true →
    (¬InServiceHead s.node.core.view src ∨
      (s.node.core.node ≠ .inService ∨ ¬Obeys s.node.core s.node.w cmd) ∧ ∀ seats mode, cmd ≠ .start seats mode) →
    Answers (hireFrame src s.node.core.me cmd) s fun n =>
      n.core = s.node.core ∧ n.w.line.mark = some .refused ∧ n.w.line.lastWinner = src ∧
        Untouched [.line, .store] s.node.w n.w) ∧
  (∀ (s : State) (src : Station) (seats : SeatSet) (mode : Option Mode), s.node.core.serving = true →
    InServiceHead s.node.core.view src →
    (s.node.core.node = .listener ∨ ¬Obeys s.node.core s.node.w (.start seats mode)) →
    Answers (.hireCommandStart src s.node.core.me seats mode) s fun n =>
      n.core = s.node.core ∧ n.w.line.mark = some .refused ∧ Untouched [.line, .store, .alerts] s.node.w n.w) ∧
  (∀ (s : State) (src dst : Station) (cmd : HireCmd), s.node.core.serving = true → dst ≠ s.node.core.me →
    Answers (hireFrame src dst cmd) s fun n =>
      n.core = s.node.core ∧ n.w.line.mark = none ∧ Untouched [.line, .store] s.node.w n.w)

/-- The results of this node's own claim frames. TAKE(LANE) of an attempt: WON and ALREADY go to AUTH_WAIT, the lane limit stopped, the request remembered and AUTH_REQUEST offered; BUSY waits for LANE, the attempt's gateway the lowest in service (log 28); ABANDONED has TAKE offered again. TAKE(LANE) of forwarding: with LANE won the first entry's FORWARD goes to BULK, else forwarding ends; its GIVE ends it, or waits 30 s for the next try. TAKE(FLOOR) of a talk press: the talk begins, or ends with the key up; BUSY and ABANDONED are the BUSY of a key still held. TAKE(FLOOR) of an announcement answers the console and starts it or ends it with BUSY for 1 s, or until the end of one under way (log 14). GIVE(FLOOR) ends the talk. SEIZE of FORCE_CLAIM: WON has the word given, whose GIVE is DONE; BUSY is WRONG_STATE. HIRE_CLOSE of CLEAR_ORPHAN: DONE with its ORPHAN_CLEARED record, or the reason it is refused with. TAKE(ASSIST, 0) clears the assist request mark; GIVE(ASSIST) answers ASSIST_OFF. The eighth failed attempt of a frame of the console's answers LINE_FAIL. -/
def Obligations.OwnClaimFrames : Prop :=
  (∀ (s : State) (m : Marks) (o : Offer) (g g' : Station) (seq tag : BitVec 16), OwnFrame s m .card o (.take (some .lane) tag) →
    o.purpose = .attempt seq → s.node.w.ret.card.txn = .laneWait → s.node.w.ret.card.record.seq = seq →
    s.node.w.ret.card.record.gateway = some g → (∃ e, s.node.core.view.entry g = some e ∧ e.state = .inService) →
    s.node.core.view.lowest .gateway = some g' → s.node.w.card.laneAsk = .none → s.node.w.card.fwd.busy = false →
    Answers (.frameOutcome m) s fun n =>
      let w := s.node.w
      let k := w.ret.card
      let r := (s.node.core.view.apply s.node.core.me (.take (some .lane) tag)).2
      Piece.same w n.w .console ∧
      (r = .won ∨ r = .already → n.w.ret.card.txn = .authWait ∧ n.w.ret.card.record = k.record ∧ n.w.card.laneRun = none ∧
        n.w.card.laneLeft = w.card.laneRun.getD w.now - w.now ∧
        n.w.ret.card.memory = (if k.memory.length < 4 then k.memory else k.memory.drop 1) ++
          [⟨seq, k.record.tag, k.record.amount, k.record.token⟩] ∧
        (w.sel.card = none → ∃ a, n.w.sel.card = some a ∧ a.purpose = .attempt seq ∧ a.attempts = 0 ∧ a.frame =
          .authRequest g ⟨seq, k.record.tag, k.record.amount, k.record.token, k.record.scheme, k.record.entry⟩)) ∧
      (r = .busy → n.w.ret.card.txn = .laneWait ∧ n.w.ret.card.record = { k.record with gateway := some g' } ∧
        n.w.card.laneRun = w.card.laneRun ∧ (n.core.view.free .lane = false → n.w.card.laneAsk = .untilFree))) ∧
  (∀ (s : State) (o : Offer) (seq tag : BitVec 16), LastAttempt s .card o (.take (some .lane) tag) → o.purpose = .attempt seq →
    s.node.w.ret.card.txn = .laneWait → s.node.w.ret.card.record.seq = seq → s.node.w.card.laneAsk = .none →
    s.node.w.card.fwd.busy = false → s.node.w.card.force = false → s.node.core.view.holds .lane s.node.core.me = false →
    Answers .attemptFailed s fun n => n.core = s.node.core ∧ n.w.ret.card.txn = .laneWait ∧
      n.w.ret.card.record = s.node.w.ret.card.record ∧ n.w.card.laneRun = s.node.w.card.laneRun ∧
      Offered .card (.pic (.take (some .lane) seq)) n.w) ∧
  (∀ (s : State) (m : Marks) (o : Offer) (tag : BitVec 16) (g : Station) (e : FwdEntry) (rest : List FwdEntry),
    OwnFrame s m .card o (.take (some .lane) tag) → o.purpose = .forward → s.node.w.card.fwd = .taking →
    s.node.w.ret.card.txn = .idle → s.node.w.ret.card.forward = e :: rest → s.node.core.view.lowest .gateway = some g →
    Answers (.frameOutcome m) s fun n =>
      let r := (s.node.core.view.apply s.node.core.me (.take (some .lane) tag)).2
      Piece.same s.node.w n.w .console ∧ n.w.ret.card.forward = e :: rest ∧
      (r = .won ∨ r = .already → n.w.card.fwd = .sending ∧
        (n.w.sel.waitForward = some (.forward g e) ∨ ∃ a, n.w.sel.bulk = some a ∧ a.frame = .forward g e)) ∧
      (r = .busy → n.core.view.free .lane = false → n.w.card.fwd = .none)) ∧
  (∀ (s : State) (o : Offer) (tag : BitVec 16), LastAttempt s .card o (.take (some .lane) tag) → o.purpose = .forward →
    s.node.w.card.fwd = .taking → Answers .attemptFailed s fun n =>
      n.core = s.node.core ∧ n.w.ret.card.forward = s.node.w.ret.card.forward ∧
      (MayForward s.node.core s.node.w → n.w.card.fwd = .taking) ∧ (¬MayForward s.node.core s.node.w → n.w.card.fwd = .none)) ∧
  (∀ (s : State) (m : Marks) (o : Offer), OwnFrame s m .card o (.give (some .lane)) → o.purpose = .forward →
    s.node.w.card.fwd = .giving → s.node.w.ret.card.txn = .idle → Answers (.frameOutcome m) s fun n =>
      n.w.card.retry = false ∧
      (s.node.w.card.retry = true → n.w.card.fwd = .waiting ∧ n.w.card.fwdRetry = some (s.node.w.now + sec 30)) ∧
      (s.node.w.card.retry = false → n.w.card.fwdRetry = none ∧
        (MayForward n.core s.node.w → n.w.card.fwd = .taking) ∧ (¬MayForward n.core s.node.w → n.w.card.fwd = .none))) ∧
  (∀ (s : State) (m : Marks) (o : Offer) (tag : BitVec 16), OwnFrame s m .card o (.seize (some .lane) tag) →
    s.node.w.card.force = true → s.node.w.con.request = some .forceLane → Answers (.frameOutcome m) s fun n =>
      let r := (s.node.core.view.apply s.node.core.me (.seize (some .lane) tag)).2
      (r = .won → Piece.same s.node.w n.w .console ∧ Offered .card (.pic (.give (some .lane))) n.w) ∧
      (r = .busy → EndsRequest s.node.w n.w (some .wrongState) ∧ n.w.card.force = false)) ∧
  (∀ (s : State) (m : Marks) (o : Offer), OwnFrame s m .card o (.give (some .lane)) → o.purpose = .console →
    s.node.w.con.request = some .forceLane → Answers (.frameOutcome m) s fun n =>
      EndsRequest s.node.w n.w none ∧ n.w.card.force = false) ∧
  (∀ (s : State) (o : Offer) (f : PicFrame) (tag : BitVec 16), LastAttempt s .card o f → o.purpose = .console →
    (f = .seize (some .lane) tag ∨ f = .give (some .lane)) → s.node.w.con.request = some .forceLane →
    Answers .attemptFailed s fun n =>
      n.core = s.node.core ∧ EndsRequest s.node.w n.w (some .lineFail) ∧ n.w.card.force = false) ∧
  (∀ (s : State) (m : Marks) (o : Offer) (x : Station) (tag : BitVec 16), OwnFrame s m .intercom o (.take (some .floor) tag) →
    o.purpose ≠ .console → TalkAsks s.node.core s.node.w (.station x) → Answers (.frameOutcome m) s fun n =>
      let i := s.node.w.ic
      let r := (s.node.core.view.apply s.node.core.me (.take (some .floor) tag)).2
      Piece.same s.node.w n.w .console ∧
      (r = .won ∨ r = .already → CallIs n.w (i.talks s.node.w.now) ∧
        (i.keyHeld = false → i.filling = [] → i.ready = none → s.node.w.sel.voice = none →
          Offered .intercom (.pic (.give (some .floor))) n.w)) ∧
      (r = .busy → CallIs n.w (i.turnedAway s.node.w.now))) ∧
  (∀ (s : State) (o : Offer) (x : Station) (tag : BitVec 16), LastAttempt s .intercom o (.take (some .floor) tag) →
    o.purpose ≠ .console → TalkAsks s.node.core s.node.w (.station x) → Answers .attemptFailed s fun n =>
      n.core = s.node.core ∧ Piece.same s.node.w n.w .console ∧ CallIs n.w (s.node.w.ic.turnedAway s.node.w.now)) ∧
  (∀ (s : State) (m : Marks) (o : Offer) (tag : BitVec 16), OwnFrame s m .intercom o (.take (some .floor) tag) →
    o.purpose = .console → s.node.core.straps.role = .head → s.node.w.con.request = some .announce → s.node.w.ic.keyHeld = true →
    TalkAsks s.node.core s.node.w .all → Answers (.frameOutcome m) s fun n =>
      let r := (s.node.core.view.apply s.node.core.me (.take (some .floor) tag)).2
      (r = .won ∨ r = .already → EndsRequest s.node.w n.w none ∧ CallIs n.w (s.node.w.ic.talks s.node.w.now)) ∧
      (r = .busy → EndsRequest s.node.w n.w (some .wrongState) ∧ CallIs n.w (s.node.w.ic.unannounced s.node.w.now))) ∧
  (∀ (s : State) (o : Offer) (tag : BitVec 16), LastAttempt s .intercom o (.take (some .floor) tag) → o.purpose = .console →
    s.node.core.straps.role = .head → s.node.w.con.request = some .announce → s.node.w.ic.keyHeld = true →
    TalkAsks s.node.core s.node.w .all → Answers .attemptFailed s fun n =>
      n.core = s.node.core ∧ EndsRequest s.node.w n.w (some .lineFail) ∧
        CallIs n.w (s.node.w.ic.unannounced s.node.w.now)) ∧
  (∀ (s : State) (m : Marks) (o : Offer), OwnFrame s m .intercom o (.give (some .floor)) → o.purpose ≠ .console →
    TalkAlone s.node.core s.node.w → s.node.w.ic.source = none → s.node.w.ic.talk = .ending → s.node.w.ic.ask = .none →
    Answers (.frameOutcome m) s fun n =>
      let i := s.node.w.ic
      Piece.same s.node.w n.w .console ∧
      (∀ x, i.call ≠ .idle → i.peer = some (.station x) → PeerPresent s.node.core.view x → CallIs n.w i.talked) ∧
      (s.node.core.straps.role = .head → i.call = .idle → CallIs n.w i.talked) ∧
      (s.node.core.straps.role = .head → i.call = .connected → i.peer = some .all → CallIs n.w (i.talked.ended i.list))) ∧
  (∀ (s : State) (m : Marks) (o : Offer) (tag : BitVec 16), OwnFrame s m .intercom o (.seize (some .floor) tag) →
    o.purpose = .console → s.node.w.con.request = some .forceFloor → Answers (.frameOutcome m) s fun n =>
      let r := (s.node.core.view.apply s.node.core.me (.seize (some .floor) tag)).2
      (r = .won → Piece.same s.node.w n.w .console ∧ Offered .intercom (.pic (.give (some .floor))) n.w) ∧
      (r = .busy → EndsRequest s.node.w n.w (some .wrongState))) ∧
  (∀ (s : State) (m : Marks) (o : Offer), OwnFrame s m .intercom o (.give (some .floor)) → o.purpose = .console →
    s.node.w.con.request = some .forceFloor → Answers (.frameOutcome m) s fun n => EndsRequest s.node.w n.w none) ∧
  (∀ (s : State) (o : Offer) (f : PicFrame) (tag : BitVec 16), LastAttempt s .intercom o f → o.purpose = .console →
    (f = .seize (some .floor) tag ∨ f = .give (some .floor)) → s.node.w.con.request = some .forceFloor →
    Answers .attemptFailed s fun n => n.core = s.node.core ∧ EndsRequest s.node.w n.w (some .lineFail)) ∧
  (∀ (s : State) (m : Marks) (o : Offer) (tag : Tag), OwnFrame s m .hiring o (.hireClose tag) → o.purpose = .console →
    s.node.w.con.request = some (.clearOrphan tag) → Answers (.frameOutcome m) s fun n =>
      let r := (s.node.core.view.apply s.node.core.me (.hireClose tag)).2
      (∀ x, r = .refused x → EndsRequest s.node.w n.w (some x)) ∧
      (r = .done → EndsRequest s.node.w n.w none ∧ (s.node.core.straps.role = .head → s.node.w.atRest = true → n.w.recorded
        { body := .orphanCleared tag, origin := s.node.core.me, time := s.node.w.stamp,
          eventsLost := s.node.w.ret.journal.headLost }))) ∧
  (∀ (s : State) (o : Offer) (tag : Tag), LastAttempt s .hiring o (.hireClose tag) → o.purpose = .console →
    s.node.w.con.request = some (.clearOrphan tag) → Answers .attemptFailed s fun n =>
      n.core = s.node.core ∧ EndsRequest s.node.w n.w (some .lineFail)) ∧
  (∀ (s : State) (m : Marks) (o : Offer), OwnFrame s m .assist o (.take (some .assist) 0) → Answers (.frameOutcome m) s fun n =>
    n.w.assist = false ∧ n.w.keys = s.node.w.keys ∧ Piece.same s.node.w n.w .console) ∧
  (∀ (s : State) (m : Marks) (o : Offer), OwnFrame s m .assist o (.give (some .assist)) → s.node.w.con.request = some .assistOff →
    Answers (.frameOutcome m) s fun n =>
      let r := (s.node.core.view.apply s.node.core.me (.give (some .assist))).2
      Piece.same s.node.w n.w .ports ∧ (r = .freed → EndsRequest s.node.w n.w none) ∧
      (r = .notFreed → EndsRequest s.node.w n.w (some .wrongState))) ∧
  (∀ (s : State) (o : Offer), LastAttempt s .assist o (.give (some .assist)) → o.purpose = .console →
    s.node.w.con.request = some .assistOff → Answers .attemptFailed s fun n =>
      n.core = s.node.core ∧ EndsRequest s.node.w n.w (some .lineFail) ∧ Piece.same s.node.w n.w .ports)

/-- The hiring controller at the application of its own frames. TAKE_SET of a start: with the seats won, or all held already (log 21), HIRE_OPEN is offered with the start time of the moment, else the slot is FREE. HIRE_OPEN: DONE starts the fare record with the flag fall of the band in force, refused returns the seats. HIRE_CLOSE of a closing slot: its seats are given back one after another, and after the last one the slot is FREE. HIRE_RECLAIM: DONE restores the prior state, HELD with no HEAD in service, refused goes to payment. At the loss of the last HEAD in service a RUNNING slot is HELD. At the application of this node's announcing STATUS the join finishes: in service the reclaim of a RESUMING slot begins and the shift is compared; a LISTENER's slot stays. The report that a slot keeps as it becomes FREE, with the metres per unit in it, is the model's reading (logs 41 and 46). -/
def Obligations.HiringAtANotice : Prop :=
  (∀ (s : State) (m : Marks) (a : Offer) (seats : SeatSet) (tag : Tag), OwnHiringFrame s m a (.takeSet seats tag) →
    s.node.w.ret.slot.state = .starting .seats → Answers (.frameOutcome m) s fun n =>
      let slot := s.node.w.ret.slot
      let r := (s.node.core.view.apply s.node.core.me (.takeSet seats tag)).2
      (r = .won ∨ r = .already → SlotIs n.w { slot with state := .starting .opening, start := s.node.w.stamp } ∧
        Offered .hiring (.pic (.hireOpen slot.tag (some slot.mode) slot.seats s.node.w.stamp)) n.w) ∧
      (r = .busy → SlotFreed s.node.core.cfg s.node.w n.w)) ∧
  (∀ (s : State) (m : Marks) (a : Offer) (tag : Tag) (mode : Option Mode) (seats : SeatSet) (start : Stamp),
    OwnHiringFrame s m a (.hireOpen tag mode seats start) → s.node.w.ret.slot.state = .starting .opening →
    Answers (.frameOutcome m) s fun n =>
      let slot := s.node.w.ret.slot
      let r := (s.node.core.view.apply s.node.core.me (.hireOpen tag mode seats start)).2
      let flag := (s.node.core.cfg.band s.node.w.meter.band).flagFall
      (r = .done → SlotIs n.w { slot with
        state := .running, band := s.node.w.meter.band, fare := flag, subtotals := [(s.node.w.meter.band, flag)], distance := 0,
        waiting := 0, gap := 0, limited := false, gapPending := false, extras := [] }) ∧
      (∀ x, r = .refused x → SeatSet.seats slot.seats ≠ [] → SlotIs n.w { slot with
        state := .starting .returning, toGive := SeatSet.seats slot.seats, refusal := some x })) ∧
  (∀ (s : State) (m : Marks) (a : Offer) (tag : Tag), OwnHiringFrame s m a (.hireClose tag) → s.node.w.ret.slot.state = .closing .removing →
    Answers (.frameOutcome m) s fun n =>
      let slot := s.node.w.ret.slot
      ∀ i rest, SeatSet.seats slot.seats = i :: rest →
        SlotIs n.w { slot with state := .closing .releasing, toGive := i :: rest } ∧
          Offered .hiring (.pic (.give (some (.seat i)))) n.w) ∧
  (∀ (s : State) (m : Marks) (a : Offer) (i : Fin 6), OwnHiringFrame s m a (.give (some (.seat i))) →
    (s.node.w.ret.slot.state = .starting .returning ∨ s.node.w.ret.slot.state = .closing .releasing ∨
      ∃ p, s.node.w.ret.slot.state = .resuming .returning p) → Answers (.frameOutcome m) s fun n =>
      let slot := s.node.w.ret.slot
      let left := slot.toGive.filter fun x => x != i
      (∀ j rest, left = j :: rest → SlotIs n.w { slot with toGive := left } ∧
        Offered .hiring (.pic (.give (some (.seat j)))) n.w) ∧
      (left = [] → SlotFreed s.node.core.cfg { s.node.w with ret := { s.node.w.ret with slot := { slot with toGive := [] } } } n.w)) ∧
  (∀ (s : State) (m : Marks) (a : Offer) (tag : Tag) (st : Option HireState) (mode : Option Mode) (seats : SeatSet) (start : Stamp) (p : Prior),
    OwnHiringFrame s m a (.hireReclaim tag st mode seats start) → s.node.w.ret.slot.state = .resuming .reclaiming p →
    Answers (.frameOutcome m) s fun n =>
      let slot := s.node.w.ret.slot
      let r := (s.node.core.view.apply s.node.core.me (.hireReclaim tag st mode seats start)).2
      let back (x : SlotState) : Prop := SlotIs n.w { slot with state := x, gapPending := true }
      (r = .done → (p = .running → back (if s.node.core.view.headIn then .running else .held .headLost)) ∧
        (∀ h, p = .held h → back (.held h)) ∧ (p = .paying → back .paying)) ∧
      (∀ x, r = .refused x → PayingOn s.node.core s.node.w n.w { slot with state := .paying, restart := true, gapPending := true })) ∧
  (∀ (s : State) (src : Station) (f : PicFrame), MeetsAsHolder src f s.node → s.node.w.ret.slot.state = .running →
    s.node.w.ret.card.txn = .idle → s.node.core.view.headIn = true → (s.node.core.view.apply src f).1.headIn = false →
    Answers (frameCommand src f) s fun n => SlotIs n.w { s.node.w.ret.slot with state := .held .headLost }) ∧
  (∀ (s : State) (m : Marks) (k : SlotId) (o : Offer) (st : StatusPay), OnAir s.node k o → m.object = false →
    s.node.core.serving = true → o.frame = .pic (.status st) → o.producer = some .status → s.node.w.join.announcing = .status →
    outranked s.node.core s.node.core.view (s.node.core.view.apply s.node.core.me (.status st)).1 s.node.core.me = false →
    s.node.w.sel.has .hiring = false → (∀ t, s.node.w.con.request ≠ some (.clearOrphan t)) →
    Answers (.frameOutcome m) s fun n =>
      n.core = { s.node.core with pic := some (s.node.core.view.apply s.node.core.me (.status st)).1 } ∧
      n.w.join = { s.node.w.join with announcing := .done } ∧
      (s.node.core.node = .inService → Finishes n.core s.node.w n.w) ∧
      (∀ p, s.node.core.node = .listener → s.node.w.ret.slot.state = .resuming .wait p → SlotIs n.w s.node.w.ret.slot))

/-! ## The meter -/

/-- DISTANCE of a HEAD at a holder of the picture, another's or this HEAD's own: a RUNNING slot is charged its units at the rate of its mode, the band in force and the occupancy, a pending gap is settled by the running count, any other slot is charged nothing; a node strapped HEAD, a LISTENER too (log 51), counts the units for drive quiet, which goes on when the window's total reaches Q, and with SHIFT held as hired or empty distance of the vehicle, a counter standing at its greatest value. A DISTANCE of another station is not read. A completed broadcast that is this node's own is its outcome (log 5). -/
def Obligations.DistanceCharges : Prop :=
  (∀ (s : State) (src : Station) (n : Nat) (running : BitVec 16), s.node.core.serving = true →
    s.node.sends src (.distance n running) = false → s.node.core.view.hasRole src .head = true →
    1 ≤ n → n ≤ 255 → Answers (.distance src n running) s fun x =>
      x.core = s.node.core ∧ x.w.line.lastWinner = src ∧ DistanceTaken s.node.core n running s.node.w x.w ∧
        Untouched [.meter, .slot, .records, .line, .store, .alerts] s.node.w x.w) ∧
  (∀ (s : State) (m : Marks) (k : SlotId) (o : Offer) (n : Nat) (running : BitVec 16), OnAir s.node k o → m.object = false →
    o.frame = .distance n running → s.node.core.serving = true → s.node.core.view.hasRole s.node.core.me .head = true →
    1 ≤ n → n ≤ 255 → Answers (.frameOutcome m) s fun x =>
      x.core = s.node.core ∧ x.w.line.lastWinner = s.node.core.me ∧ x.w.store.presence = some s.node.w.now ∧
        DistanceTaken s.node.core n running s.node.w x.w ∧
        Untouched [.meter, .slot, .records, .line, .store, .alerts] s.node.w x.w) ∧
  (∀ (s : State) (src : Station) (n : Nat) (running : BitVec 16), s.node.core.serving = true →
    s.node.sends src (.distance n running) = false →
    (s.node.core.view.hasRole src .head = false ∨ n = 0 ∨ 255 < n) → Answers (.distance src n running) s fun x =>
      x.core = s.node.core ∧ Untouched [.line, .store] s.node.w x.w) ∧
  (∀ (s : State) (src : Station) (n : Nat) (running : BitVec 16), s.node.sends src (.distance n running) = true →
    exec (.distance src n running) s = exec (.frameOutcome ⟨false, false, false⟩) s)

/-- TIME: a BAY adopts that of a HEAD or GATEWAY entry and evaluates the band of that moment; a HEAD in service that of a GATEWAY, with a TIME_SET record to its hold; a date past 2099, or another sender, changes nothing. A joining node adopts the first TIME of a sender whose role it has not heard, at a HEAD too (log 30), and notes that it has seen a TIME. This node's own TIME that carries the console's setting answers SET_TIME: DONE when it completes, LINE_FAIL after the eighth failed attempt; a completed broadcast that is its own is that outcome (log 5). -/
def Obligations.TimeAdopted : Prop :=
  (∀ (s : State) (src : Station) (t : Nat), s.node.core.serving = true → s.node.core.straps.role = .bay →
    s.node.sends src (.time t) = false → t < clockLimit →
    (s.node.core.view.hasRole src .head = true ∨ s.node.core.view.hasRole src .gateway = true) →
    Answers (.time src t) s fun n =>
      n.core = s.node.core ∧ n.w.ret.clock = some t ∧ n.w.meter.band = s.node.core.cfg.bandAt (some t) ∧
        (s.node.w.ret.slot.state.stands = true → s.node.w.ret.slot.state ≠ .free → s.node.w.ret.slot.band = s.node.w.meter.band →
          n.w.ret.slot.band = s.node.core.cfg.bandAt (some t)) ∧
        n.w.ret.valid = s.node.w.ret.valid ∧ n.w.free = s.node.w.free ∧
        Untouched [.clock, .meter, .slot, .line, .store] s.node.w n.w) ∧
  (∀ (s : State) (src : Station) (t : Nat), s.node.core.node = .inService → s.node.core.straps.role = .head →
    s.node.sends src (.time t) = false → t < clockLimit → s.node.core.view.hasRole src .gateway = true →
    Answers (.time src t) s fun n =>
      n.core = s.node.core ∧ n.w.ret.clock = some t ∧ n.w.meter.band = s.node.core.cfg.bandAt (some t) ∧
        (s.node.w.atRest = true → n.w.recorded
          { body := .timeSet s.node.w.ret.clock t (.gateway src), origin := s.node.core.me, time := ⟨t, false⟩,
            eventsLost := s.node.w.ret.journal.headLost }) ∧
        Untouched [.clock, .meter, .slot, .records, .line, .store, .alerts] s.node.w n.w) ∧
  (∀ (s : State) (src : Station) (t : Nat), s.node.core.serving = true → s.node.sends src (.time t) = false →
    (clockLimit ≤ t ∨ s.node.core.view.hasRole src .gateway = false ∧
      (s.node.core.view.hasRole src .head = false ∨ s.node.core.straps.role = .head)) → Answers (.time src t) s fun n =>
      n.core = s.node.core ∧ Untouched [.line, .store] s.node.w n.w) ∧
  (∀ (s : State) (src : Station) (t : Nat), s.node.core.node = .joining → s.node.sends src (.time t) = false →
    (s.node.w.join.roles.find? fun r => r.1 == src) = none → s.node.w.join.firstTime = false → t < clockLimit →
    Answers (.time src t) s fun n =>
      n.core = s.node.core ∧ n.w.ret.clock = some t ∧ n.w.join = { s.node.w.join with firstTime := true } ∧
        Untouched [.clock, .meter, .slot, .line, .join] s.node.w n.w) ∧
  (∀ (s : State) (m : Marks) (k : SlotId) (o : Offer) (t : Nat), OnAir s.node k o → m.object = false → o.frame = .time t →
    Answers (.frameOutcome m) s fun n =>
      n.core = s.node.core ∧ Untouched [.line, .store, .console] s.node.w n.w ∧
      (o.purpose = .console → s.node.w.con.request = some .setTime →
        n.w.con.request = none ∧ n.w.con.results = s.node.w.con.results ++ [none]) ∧
      (o.purpose ≠ .console ∨ s.node.w.con.request ≠ some .setTime →
        n.w.con.request = s.node.w.con.request ∧ n.w.con.results = s.node.w.con.results)) ∧
  (∀ (s : State) (k : SlotId) (o : Offer) (t : Nat), s.node.w.onAir = some (k, o) → o.leaving = false → o.dead = false →
    8 ≤ o.attempts → o.frame = .time t → o.purpose = .console → s.node.w.con.request = some .setTime →
    Answers .attemptFailed s fun n =>
      n.core = s.node.core ∧ n.w.con.request = none ∧ n.w.con.results = s.node.w.con.results ++ [some .lineFail] ∧
        Untouched [.line, .console, .alerts] s.node.w n.w) ∧
  (∀ (s : State) (src : Station) (t : Nat), s.node.sends src (.time t) = true →
    exec (.time src t) s = exec (.frameOutcome ⟨false, false, false⟩) s)

/-- ONE_SECOND_TICK, at least 1 s after the one before (log 3): the second is counted by the clock, and at a minute boundary the band is evaluated afresh and a HEAD in service offers TIME; a RUNNING slot with no DISTANCE since the last one is charged a waiting second; the HEAD's window of drive quiet shifts, and the condition goes off at the fifth quiet second; at a HEAD that holds a picture with SHIFT held the tally counts the second; a BAY in service samples the sensors of its two lowest seats. A HALTED node's slot stands. STANDBY_CLOCK_ADVANCE counts a second of a HEAD's clock held in RESET on the standby supply, the time base going 1 s on (log 3). After the last second of 2099 the clock is a free value (log 7). -/
def Obligations.SecondCounted : Prop :=
  (∀ (s : State) (o1 o2 : Bool), s.node.core.node.started = true → Answers (.oneSecondTick o1 o2) s fun n =>
    let w := s.node.w
    let rate := (s.node.core.cfg.band w.meter.band).waiting
    n.core = s.node.core ∧ n.w.now = max w.now (w.meter.secondAt + sec 1) ∧ n.w.meter.secondAt = n.w.now ∧
    (w.ret.clock = none → n.w.ret.clock = none ∧ n.w.meter.band = w.meter.band) ∧
    (∀ t, w.ret.clock = some t → t + 1 < clockLimit →
      n.w.ret.clock = some (t + 1) ∧ MinuteAfter s.node.core (t + 1) w n.w) ∧
    (∀ t, w.ret.clock = some t → clockLimit ≤ t + 1 → ∃ t', n.w.ret.clock = some t' ∧ t' < clockLimit) ∧
    n.w.meter.seen = false ∧ (s.node.core.node = .halted → n.w.ret.slot = w.ret.slot) ∧
    (s.node.core.node ≠ .halted →
      (w.ret.slot.state = .running → w.meter.seen = false →
        n.w.ret.slot.waiting = w.ret.slot.waiting + 1 ∧ n.w.ret.slot.fare = w.ret.slot.fare + min rate (999999 - w.ret.slot.fare) ∧
          n.w.ret.slot.limited = (w.ret.slot.limited || decide (999999 < w.ret.slot.fare + rate)) ∧
          n.w.ret.slot.distance = w.ret.slot.distance ∧ n.w.ret.slot.state = .running) ∧
      (w.ret.slot.state.stands = true → (w.ret.slot.state ≠ .running ∨ w.meter.seen = true) →
        SlotIs n.w { w.ret.slot with band := n.w.ret.slot.band }) ∧
      (w.ret.slot.state.stands = true → n.w.ret.slot.band =
        if w.ret.slot.state = .free ∨ n.w.meter.band = w.meter.band then w.ret.slot.band else n.w.meter.band)) ∧
    (s.node.core.straps.role = .head → QuietAfter s.node.core.cfg.driveQuietQ w n.w) ∧
    (s.node.core.straps.role = .bay → n.w.meter.window = w.meter.window ∧ n.w.meter.current = w.meter.current) ∧
    (let moving : Bool := match w.meter.lastDistance with
      | some t => decide (n.w.now - t < sec 5)
      | none => false
     let watches : Prop := s.node.core.straps.role = .bay ∧ s.node.core.node = .inService
     let seat (k : Nat) : Option (Fin 6) := (allSeats.filter fun i => s.node.core.cfg.seatMask.getLsbD i.val)[k]?
     (∀ i, watches → seat 0 = some i → WatchAfter w.hire.watch1 n.w.hire.watch1 o1 (s.node.core.view.free (.seat i)) moving) ∧
     (∀ i, watches → seat 1 = some i → WatchAfter w.hire.watch2 n.w.hire.watch2 o2 (s.node.core.view.free (.seat i)) moving) ∧
     (¬watches ∨ seat 0 = none → n.w.hire.watch1 = w.hire.watch1) ∧
     (¬watches ∨ seat 1 = none → n.w.hire.watch2 = w.hire.watch2)) ∧
    (let counts : Prop := s.node.core.straps.role = .head ∧ s.node.core.serving = true ∧ s.node.core.view.free .shift = false
     w.atRest = true → (counts → n.w.ret.tally.tally.seconds = min 4294967295 (w.ret.tally.tally.seconds + 1)) ∧
       (¬counts → n.w.ret.tally.tally = w.ret.tally.tally)) ∧
    Untouched [.now, .clock, .meter, .slot, .sign, .alerts, .records] w n.w) ∧
  (∀ s : State, s.node.core.node = .reset → s.node.core.straps.role = .head → s.node.core.standby = true →
    Answers .standbyClockAdvance s fun n =>
      n.core = s.node.core ∧ n.w.now = s.node.w.now + sec 1 ∧
        (s.node.w.ret.clock = none → n.w.ret = s.node.w.ret) ∧
        (∀ t, s.node.w.ret.clock = some t → t + 1 < clockLimit → n.w.ret = { s.node.w.ret with clock := some (t + 1) }) ∧
        Untouched [.now, .clock] s.node.w n.w)

/-- ODOMETER_PULSE at a HEAD with the odometer strap, low and held for 20 µs each: it is counted; the last pulse of a unit makes a unit, which the running count counts, and in service it joins the DISTANCE waiting in the METER slot, opens one in a free slot, or waits in the accumulator. A shorter pulse, or one at another node, counts nothing. -/
def Obligations.OdometerUnits : Prop :=
  (∀ (s : State) (low held : Nat), s.node.core.node.started = true → s.node.core.halt ≠ some .configFault →
    s.node.core.straps.role = .head → s.node.core.straps.odometer = true → 20 ≤ low → 20 ≤ held →
    Answers (.odometerPulse low held) s fun n =>
      let w := s.node.w
      n.core = s.node.core ∧ Untouched [.meter] w n.w ∧ n.w.ret.lastRunning = w.ret.lastRunning ∧
      (w.meter.pulses + 1 < s.node.core.cfg.pulsesPerUnit →
        n.w.meter = { w.meter with pulses := w.meter.pulses + 1 } ∧ n.w.ret.running = w.ret.running ∧ n.w.sel = w.sel) ∧
      (s.node.core.cfg.pulsesPerUnit ≤ w.meter.pulses + 1 → n.w.meter.pulses = 0 ∧ n.w.ret.running = w.ret.running + 1 ∧
        (s.node.core.node ≠ .inService → n.w.meter.accumulator = w.meter.accumulator ∧ n.w.sel = w.sel) ∧
        (s.node.core.node = .inService → w.sel.meter = none → w.meter.timeWaiting = none → w.meter.accumulator < 255 →
          n.w.meter.accumulator = 0 ∧ ∃ o, n.w.sel.meter = some o ∧ o.frame = .distance (w.meter.accumulator + 1) (w.ret.running + 1)) ∧
        (∀ o k r, s.node.core.node = .inService → w.sel.meter = some o → o.frame = .distance k r → o.attempts = 0 → k < 255 →
          n.w.meter.accumulator = w.meter.accumulator ∧
            n.w.sel.meter = some { o with frame := .distance (k + 1) (w.ret.running + 1) }) ∧
        (∀ o, s.node.core.node = .inService → w.sel.meter = some o →
          (0 < o.attempts ∨ (∀ k r, o.frame = .distance k r → 255 ≤ k)) →
          n.w.meter.accumulator = w.meter.accumulator + 1 ∧ n.w.sel = w.sel))) ∧
  (∀ (s : State) (low held : Nat), (low < 20 ∨ held < 20 ∨ s.node.core.straps.role = .bay ∨ s.node.core.straps.odometer = false) →
    Answers (.odometerPulse low held) s fun n => n = s.node)

/-! ## Fare reports, alerts, the intercom -/

/-- FARE_REPORT and ALERT at a HEAD, at rest: the report goes to the console's output queue, an ALERT's with its lost count; a NORMAL one while drive quiet is on is deferred, of 8 the oldest lost. -/
def Obligations.ReportsReachTheConsole : Prop :=
  (∀ (s : State) (src : Station) (r : FareRep), s.node.core.serving = true → s.node.core.straps.role = .head →
    Answers (.fareReport src s.node.core.me r) s fun n =>
      n.core = s.node.core ∧ n.w.line.mark = some .taken ∧
        (Quiescent s.node.w → n.w.con = s.node.w.con.push (.report (.fare src r))) ∧
        Untouched [.line, .store] s.node.w n.w) ∧
  (∀ (s : State) (src : Station) (r : FareRep), s.node.core.serving = true → s.node.core.straps.role = .bay →
    Answers (.fareReport src s.node.core.me r) s fun n =>
      n.core = s.node.core ∧ n.w.line.mark = some .refused ∧ Untouched [.line, .store] s.node.w n.w) ∧
  (∀ (s : State) (src : Station) (cls : AlertClass) (a : AlertRec) (lost : Nat), s.node.core.serving = true →
    s.node.core.straps.role = .head → s.node.core.view.hasRole src .bay = true →
    Answers (.alert src s.node.core.me cls (some a) lost) s fun n =>
      n.core = s.node.core ∧ n.w.line.mark = some .taken ∧ Untouched [.line, .store, .alerts] s.node.w n.w ∧
        (Quiescent s.node.w → cls = .urgent ∨ s.node.w.meter.quiet = false →
          n.w.con = s.node.w.con.push (.report (.alert a false lost)) ∧ n.w.alerts.deferred = s.node.w.alerts.deferred) ∧
        (Quiescent s.node.w → cls = .normal → s.node.w.meter.quiet = true → n.w.con = s.node.w.con ∧
          n.w.alerts.deferred = (if s.node.w.alerts.deferred.length < 8 then s.node.w.alerts.deferred
            else s.node.w.alerts.deferred.drop 1) ++ [⟨a, some lost⟩] ∧
          n.w.alerts.overflow = (s.node.w.alerts.overflow || decide (8 ≤ s.node.w.alerts.deferred.length)))) ∧
  (∀ (s : State) (src : Station) (cls : AlertClass) (a : Option AlertRec) (lost : Nat), s.node.core.serving = true →
    (a = none ∨ s.node.core.view.hasRole src (if s.node.core.straps.role = .head then .bay else .head) = false) →
    Answers (.alert src s.node.core.me cls a lost) s fun n =>
      n.core = s.node.core ∧ n.w.line.mark = some .refused ∧ Untouched [.line, .store] s.node.w n.w)

/-- ALERT of a HEAD at a BAY, at rest: an URGENT one is shown at once for 3 s; a NORMAL one joins the pending set while the mask is set, else the show queue of 24, and a blank line shows the front for 3 s. ALERT_SHOW_EXPIRY shows the next, the time base at its moment (log 3). -/
def Obligations.BayShowsAlerts : Prop :=
  (∀ (s : State) (src : Station) (cls : AlertClass) (a : AlertRec) (lost : Nat), s.node.core.serving = true →
    s.node.core.straps.role = .bay → s.node.core.view.hasRole src .head = true → s.node.w.atRest = true →
    Answers (.alert src s.node.core.me cls (some a) lost) s fun n =>
      let al := s.node.w.alerts
      let rest := if al.showQueue.length < 24 then al.showQueue else al.showQueue.drop 1
      n.core = s.node.core ∧ n.w.line.mark = some .taken ∧ Untouched [.line, .store, .alerts] s.node.w n.w ∧
        (cls = .urgent → n.w.alerts.showing = some (⟨a, 1, true⟩, s.node.w.now + sec 3) ∧
          n.w.alerts.showQueue = al.showQueue ∧ n.w.alerts.pending = al.pending) ∧
        (cls = .normal → al.mask = true → n.w.alerts.showing = al.showing ∧ n.w.alerts.showQueue = al.showQueue ∧
          (∀ i ∈ al.pending, i.alert.kind ≠ a.kind → i ∈ n.w.alerts.pending) ∧
          ∃ i ∈ n.w.alerts.pending, i.alert = a) ∧
        (cls = .normal → al.mask = false → al.showing ≠ none → n.w.alerts.showing = al.showing ∧
          n.w.alerts.showQueue = rest ++ [⟨a, 1, false⟩] ∧ n.w.alerts.pending = al.pending) ∧
        (cls = .normal → al.mask = false → al.showing = none → al.showQueue = [] → n.w.alerts.showQueue = [] ∧
          n.w.alerts.showing = some (⟨a, 1, false⟩, s.node.w.now + sec 3) ∧ n.w.alerts.pending = al.pending)) ∧
  (∀ (s : State) (i : Item) (t : Time), s.node.w.alerts.showing = some (i, t) → Answers .alertShowExpiry s fun n =>
    n.core = s.node.core ∧ n.w.now = max s.node.w.now t ∧
      (s.node.w.alerts.showQueue = [] → n.w.alerts = { s.node.w.alerts with showing := none }) ∧
      (∀ x rest, s.node.w.alerts.showQueue = x :: rest →
        n.w.alerts = { s.node.w.alerts with showing := some (x, n.w.now + sec 3), showQueue := rest }) ∧
      n.w.sel = s.node.w.sel ∧ Untouched [.now, .alerts] s.node.w n.w)

/-- CALL at a party that may be called: an IDLE one with nothing left to send rings for 30 s, or holds a call that is not urgent while its mask is set; a call that crosses this node's own connects; one of the peer changes nothing; any other is REFUSED. -/
def Obligations.CallReceived : Prop :=
  (∀ (s : State) (src : Station) (urgent : Bool), CallReady s.node.core s.node.w →
    s.node.core.view.present src (if s.node.core.straps.role = .head then .bay else .head) = true →
    Answers (.call src s.node.core.me urgent) s fun n =>
      let i := s.node.w.ic
      n.core = s.node.core ∧ Untouched [.line, .store, .call] s.node.w n.w ∧
      (i.call = .idle → i.list = [] → (urgent = true ∨ i.mask = false) → n.w.line.mark = some .taken ∧
        CallIs n.w { i with call := .ringingIn, peer := some (.station src), outgoing := false, urgent := urgent,
                            ring := some (s.node.w.now + sec 30), tone := some .ring }) ∧
      (i.call = .idle → i.list = [] → urgent = false → i.mask = true → n.w.line.mark = some .taken ∧
        CallIs n.w { i with call := .heldIn, peer := some (.station src), outgoing := false, urgent := false,
                            list := [(src, .held)] }) ∧
      (i.call = .ringingOut → i.peer = some (.station src) → n.w.line.mark = some .taken ∧
        CallIs n.w { i with call := .connected, ring := none, tone := none, list := i.list ++ [(src, .answer)] }) ∧
      (i.call = .connected → i.peer = some (.station src) → i.announce = false → n.w.line.mark = some .taken ∧ CallIs n.w i) ∧
      (i.call = .idle ∧ i.list ≠ [] ∨ (i.call = .ringingOut ∨ i.call = .connected) ∧ i.peer ≠ some (.station src) ∨
        i.call = .connected ∧ i.announce = true ∨ i.call = .ringingIn ∨ i.call = .heldIn ∨ i.call = .heldOut →
        n.w.line.mark = some .refused ∧ CallIs n.w i)) ∧
  (∀ (s : State) (src : Station) (urgent : Bool), CallReady s.node.core s.node.w →
    s.node.core.view.present src (if s.node.core.straps.role = .head then .bay else .head) = false →
    Answers (.call src s.node.core.me urgent) s fun n =>
      n.core = s.node.core ∧ n.w.line.mark = some .refused ∧ Untouched [.line, .store] s.node.w n.w)

/-- The peer's frames: CALL_ANSWER connects a call ringing out, CALL_HELD holds it, CALL_RESUMED has it ring again for 30 s, CALL_END ends the call and empties the jitter queue; from another station, or in another call state, each is REFUSED and changes nothing. A frame of the list that stands in the CALL slot stays until its outcome (log 13); what an announcement finds in the list is of an earlier call and stays. -/
def Obligations.PeerCallFrames : Prop :=
  ∀ (s : State) (src : Station), CallReady s.node.core s.node.w →
    let i := s.node.w.ic
    let peer : Prop := i.peer = some (.station src)
    let refused (n : Node) : Prop := n.core = s.node.core ∧ n.w.line.mark = some .refused ∧ Untouched [.line, .store] s.node.w n.w
    let taken (n : Node) (j : Intercom) : Prop := n.core = s.node.core ∧ n.w.line.mark = some .taken ∧ CallIs n.w j ∧
      Untouched [.line, .store, .call] s.node.w n.w
    (peer → i.call = .ringingOut → Answers (.callAnswer src s.node.core.me) s fun n =>
      taken n { i with call := .connected, ring := none, tone := none }) ∧
    (peer → i.call = .connected → Answers (.callAnswer src s.node.core.me) s fun n => taken n i) ∧
    (¬peer ∨ (i.call ≠ .ringingOut ∧ i.call ≠ .connected) → Answers (.callAnswer src s.node.core.me) s refused) ∧
    (peer → i.call = .ringingOut → Answers (.callHeld src s.node.core.me) s fun n =>
      taken n { i with call := .heldOut, ring := none, tone := none }) ∧
    (¬peer ∨ i.call ≠ .ringingOut → Answers (.callHeld src s.node.core.me) s refused) ∧
    (peer → i.call = .heldOut → Answers (.callResumed src s.node.core.me) s fun n =>
      taken n { i with call := .ringingOut, ring := some (s.node.w.now + sec 30), tone := some .ringback }) ∧
    (¬peer ∨ i.call ≠ .heldOut → Answers (.callResumed src s.node.core.me) s refused) ∧
    (∀ r, peer → i.call ≠ .idle → i.talk = .quiet → (s.node.core.straps.role = .head ∨ s.node.core.view.free .floor = true) →
      Answers (.callEnd src s.node.core.me r) s fun n => n.core = s.node.core ∧ n.w.line.mark = some .taken ∧
        CallIs n.w (i.over (if i.call = .connected ∧ i.announce = true then i.list else if i.handed then i.list.take 1 else [])) ∧
        Untouched [.line, .store, .call, .alerts] s.node.w n.w) ∧
    (∀ r, ¬peer ∨ i.call = .idle → Answers (.callEnd src s.node.core.me r) s refused)

/-- VOICE of the connected peer, addressed to the node or broadcast, joins the jitter queue of 6: with FLOOR held by the peer under this node's number, or under tag 16 at a BAY that has joined the announcement. Any other VOICE addressed to the node is REFUSED, any other broadcast discarded. PLAYOUT_FRAME_END plays the next, fills again, or ends a drain, and with it an announcement whose floor is gone. VOICE_SAMPLE of the talker joins the filling frame; the 32nd, VOICE_FRAME_COMPLETE too, makes a VOICE to the peer that takes the VOICE slot, or waits behind a begun one (log 33). -/
def Obligations.Voice : Prop :=
  (∀ (s : State) (src : Station) (dst : Dest) (samples : List Byte), CallReady s.node.core s.node.w → samples.length = 32 →
    s.node.sends src (.voice .all samples) = false →
    dst = .station s.node.core.me ∨ dst = .all →
    (s.node.core.view.claim .floor = ⟨some src, BitVec.ofNat 16 s.node.core.me.val⟩ ∨
      s.node.core.view.claim .floor = ⟨some src, 16⟩ ∧ s.node.core.straps.role = .bay ∧ s.node.w.ic.announce = true) →
    s.node.w.ic.call = .connected → s.node.w.ic.peer = some (.station src) → s.node.w.ic.talk ≠ .talking →
    s.node.w.ic.talk ≠ .ending → Answers (.voice src dst samples) s fun n =>
      n.core = s.node.core ∧ n.w.line.mark = (if dst = .all then none else some .taken) ∧
        CallIs n.w (s.node.w.ic.taken src samples) ∧ Untouched [.line, .store, .call] s.node.w n.w) ∧
  (∀ (s : State) (src : Station) (dst : Dest) (samples : List Byte), CallReady s.node.core s.node.w →
    dst = .station s.node.core.me ∨ dst = .all → s.node.sends src (.voice .all samples) = false →
    (samples.length ≠ 32 ∨ (s.node.core.view.claim .floor).holder ≠ some src ∨
      (s.node.core.view.claim .floor).tag.toNat ≠ s.node.core.me.val ∧
        ((s.node.core.view.claim .floor).tag ≠ 16 ∨ s.node.core.straps.role = .head ∨ s.node.w.ic.announce = false) ∨
      s.node.w.ic.call ≠ .connected ∨
      s.node.w.ic.peer ≠ some (.station src) ∨ s.node.w.ic.talk = .talking ∨ s.node.w.ic.talk = .ending) →
    Answers (.voice src dst samples) s fun n =>
      n.core = s.node.core ∧ n.w.line.mark = (if dst = .all then none else some .refused) ∧
        Untouched [.line, .store] s.node.w n.w) ∧
  (∀ (s : State) (f : List Byte), CallReady s.node.core s.node.w → s.node.w.ic.playing = some f →
    (s.node.w.ic.announce = false ∨ announcer s.node.core = s.node.w.ic.peerStation) → Answers .playoutFrameEnd s fun n =>
      let i := s.node.w.ic
      n.core = s.node.core ∧ Untouched [.call] s.node.w n.w ∧
      (i.playout = .playing → i.jitter = [] → CallIs n.w { i with playing := none, playout := .filling }) ∧
      (i.playout = .draining → i.jitter = [] →
        CallIs n.w { i with playing := none, playout := .stopped, jitter := [], source := none }) ∧
      (∀ g rest, i.playout = .playing ∨ i.playout = .draining → i.jitter = g :: rest →
        CallIs n.w { i with playing := some g, jitter := rest })) ∧
  (∀ (s : State) (f : List Byte) (x : Station), CallReady s.node.core s.node.w → s.node.w.ic.playing = some f →
    s.node.w.ic.playout = .draining → s.node.w.ic.jitter = [] → s.node.w.ic.announce = true →
    s.node.w.ic.peer = some (.station x) → s.node.core.view.free .floor = true → Answers .playoutFrameEnd s fun n =>
      n.core = s.node.core ∧ CallIs n.w (s.node.w.ic.over s.node.w.ic.list) ∧ Untouched [.call] s.node.w n.w) ∧
  (∀ s : State, s.node.w.ic.playing = none → Answers .playoutFrameEnd s fun n =>
    n.core = s.node.core ∧ Untouched [] s.node.w n.w) ∧
  (∀ (s : State) (b : Byte), s.node.core.serving = true → s.node.w.ic.talk = .talking → s.node.w.ic.filling.length < 31 →
    Answers (.voiceSample b) s fun n =>
      n = { s.node with w := { s.node.w with ic := { s.node.w.ic with filling := s.node.w.ic.filling ++ [b] } } }) ∧
  (∀ (s : State) (b : Byte) (d : Dest), s.node.core.serving = true → s.node.w.ic.talk = .talking →
    s.node.w.ic.filling.length = 31 → s.node.w.ic.peer = some d → s.node.core.view.holds .floor s.node.core.me = true →
    exec (.voiceSample b) s = exec (.voiceFrameComplete b) s ∧ Answers (.voiceFrameComplete b) s fun n =>
      let i := s.node.w.ic
      n.core = s.node.core ∧
      (s.node.w.sel.busy .voice = false → n.w.ic = { i with filling := [] } ∧
        ∃ o, n.w.sel.voice = some o ∧ o.frame = .voice d (i.filling ++ [b]) ∧ o.attempts = 0) ∧
      (s.node.w.sel.busy .voice = true → n.w.ic = { i with filling := [], ready := some (d, i.filling ++ [b]) } ∧
        n.w.sel = s.node.w.sel) ∧
      Untouched [.call] s.node.w n.w) ∧
  (∀ (s : State) (b : Byte), (s.node.core.serving = false ∨ s.node.w.ic.talk ≠ .talking →
      Answers (.voiceSample b) s fun n => n = s.node) ∧
    (s.node.core.serving = false ∨ s.node.w.ic.talk ≠ .talking ∨ s.node.w.ic.filling.length ≠ 31 →
      Answers (.voiceFrameComplete b) s fun n => n = s.node))

/-- The intercom's timers: the ring limit ends the call with CALL_END NO_ANSWER, the jitter queue draining (log 44); the talk limit ends the talk; the tone timer silences the BUSY whose end comes first, that of a refused call, a CALL key or an announcement, or that of a talk press (log 14). Each takes the time base to its moment (log 3). -/
def Obligations.IntercomTimers : Prop :=
  (∀ (s : State) (t : Time) (x : Station), CallReady s.node.core s.node.w → s.node.w.ic.ring = some t →
    s.node.w.ic.peer = some (.station x) → s.node.w.ic.talk = .quiet →
    (s.node.core.straps.role = .head ∨ s.node.core.view.free .floor = true) → Answers .ringLimitExpiry s fun n =>
      let i := s.node.w.ic
      n.core = s.node.core ∧ n.w.now = max s.node.w.now t ∧ Untouched [.now, .call, .alerts] s.node.w n.w ∧
        CallIs n.w (i.drain.ended (i.list ++ [(x, .ended .noAnswer)]))) ∧
  (∀ (s : State) (t : Time), s.node.core.serving = true → s.node.w.ret.slot.state.stands = true → s.node.w.ic.talkLimit = some t →
    Answers .talkLimitExpiry s fun n =>
      n.core = s.node.core ∧ n.w.now = max s.node.w.now t ∧ n.w.ic.talk = .ending ∧ n.w.ic.talkLimit = none ∧
        n.w.ic.filling = [] ∧ n.w.ic.call = s.node.w.ic.call ∧ n.w.ic.peer = s.node.w.ic.peer ∧
        Untouched [.now, .call] s.node.w n.w) ∧
  (∀ (s : State) (t : Time), s.node.core.node.started = true → CallQuiet s.node.w →
    (s.node.w.ic.busy = some t ∧ (∀ b, s.node.w.ic.talkBusy = some b → t ≤ b) ∨
      s.node.w.ic.talkBusy = some t ∧ ∀ e, s.node.w.ic.busy = some e → t ≤ e) → Answers .toneTimerExpiry s fun n =>
      let i := s.node.w.ic
      n.core = s.node.core ∧ n.w.now = max s.node.w.now t ∧
        CallIs n.w { i with busy := if i.busy = some t then none else i.busy,
                            talkBusy := if i.talkBusy = some t then none else i.talkBusy } ∧
        Untouched [.now, .call] s.node.w n.w)

/-! ## Card payments -/

/-- CARD_PRESENTED in ARMED counts an attempt and gives it the next request sequence: a scheme or entry mode out of range is declined BAD_CARD at once; with a GATEWAY in service the attempt waits for LANE at most 10 s. In any other state, and in HALTED, it changes nothing, and a message the card link discards changes nothing. -/
def Obligations.CardPresented : Prop :=
  (∀ (s : State) (d : CardRead), s.node.core.node.started = true → s.node.core.node ≠ .halted →
    s.node.w.ret.slot.state.stands = true → s.node.w.ret.card.txn = .armed → Answers (.cardPresented d) s fun n =>
      let c := s.node.core
      let k := s.node.w.ret.card
      let read : TxnRec := { k.record with token := d.token, scheme := d.scheme, entry := d.entry.getD .tap,
                                           onlineRequired := d.onlineRequired, seq := k.reqSeq + 1 }
      let good : Prop := d.entry ≠ none ∧ 1 ≤ d.scheme ∧ d.scheme ≤ 15
      n.core = c ∧ n.w.ret.card.reqSeq = k.reqSeq + 1 ∧ n.w.card.arm = none ∧
      (¬good → n.w.ret.card.txn = .result ∧ n.w.ret.card.record = { read with result := some (.declined .badCard) } ∧
        n.w.ret.slot = { s.node.w.ret.slot with attempts := s.node.w.ret.slot.attempts + 1 } ∧
        n.w.card.hold = some (s.node.w.now + sec 10) ∧
        n.w.card.reader = s.node.w.card.reader ++
          [.result .declined (if s.node.w.ret.slot.attempts + 1 = 3 then textRetryLimit else textReadError)]) ∧
      (∀ g, good → c.view.lowest .gateway = some g → n.w.ret.card.txn = .laneWait ∧
        n.w.ret.card.record = { read with gateway := some g } ∧
        n.w.ret.slot = { s.node.w.ret.slot with attempts := s.node.w.ret.slot.attempts + 1 } ∧
        n.w.card.laneRun = some (s.node.w.now + sec 10) ∧ n.w.card.reader = s.node.w.card.reader) ∧
      (good → c.view.lowest .gateway = none → n.w.ret.card.txn = .result ∧
        n.w.ret.card.record = { read with
          result := some (if offlineAllowed c { k with record := read } then .approvedOffline else .declined .noLink) }) ∧
      Untouched [.slot, .card, .records, .line, .alerts, .call] s.node.w n.w) ∧
  (∀ (s : State) (d : CardRead), s.node.w.ret.card.txn ≠ .armed ∨ s.node.core.node = .halted → Answers (.cardPresented d) s fun n =>
    n.core = s.node.core ∧ Untouched [] s.node.w n.w) ∧
  (∀ (s : State) (bytes : List Byte), Answers (.cardLinkDiscard bytes) s fun n => n = s.node)

/-- CARD_REMOVED and the end of the result hold end the RESULT: IDLE, the record cleared, the reader told to rest. READER_FAULT ends an attempt too, counting one when the card was armed; on an IDLE transaction it only raises its alert. With CONFIG_FAULT the transaction stands (log 31). The end of the hold takes the time base to its moment (log 3). -/
def Obligations.CardRests : Prop :=
  (∀ s : State, s.node.core.node.started = true → s.node.core.halt ≠ some .configFault → s.node.w.ret.card.txn = .result →
    Answers .cardRemoved s fun n =>
      n.core = s.node.core ∧ Rests s.node.w n.w ∧ n.w.card.hold = none ∧
        Untouched [.card, .line, .alerts, .call] s.node.w n.w) ∧
  (∀ s : State, s.node.w.ret.card.txn ≠ .result ∨ s.node.core.halt = some .configFault → Answers .cardRemoved s fun n =>
    n.core = s.node.core ∧ Untouched [] s.node.w n.w) ∧
  (∀ (s : State) (t : Time), s.node.w.card.hold = some t →
    Answers .resultHoldExpiry s fun n =>
      n.core = s.node.core ∧ n.w.now = max s.node.w.now t ∧ Rests s.node.w n.w ∧ n.w.card.hold = none ∧
        Untouched [.now, .card, .line, .alerts, .call] s.node.w n.w) ∧
  (∀ s : State, s.node.core.node.started = true → s.node.core.halt ≠ some .configFault → s.node.w.ret.slot.state.stands = true →
    s.node.w.ret.card.txn ≠ .idle → Answers .readerFault s fun n =>
      n.core = s.node.core ∧ Rests s.node.w n.w ∧
        n.w.ret.slot = (if s.node.w.ret.card.txn = .armed
          then { s.node.w.ret.slot with attempts := s.node.w.ret.slot.attempts + 1 } else s.node.w.ret.slot) ∧
        Untouched [.slot, .card, .line, .alerts, .call] s.node.w n.w) ∧
  (∀ s : State, s.node.core.node.started = true → s.node.w.ret.card.txn = .idle ∨ s.node.core.halt = some .configFault →
    Answers .readerFault s fun n => n.core = s.node.core ∧ n.w.ret.card.txn = s.node.w.ret.card.txn ∧
      n.w.ret.card.record = s.node.w.ret.card.record ∧ Untouched [.line, .alerts] s.node.w n.w)

/-- The card engine's timers: the arm limit disarms; the lane limit and the reply limit make the offline check; the lane retry asks for LANE again, after the GIVE of a LANE this station still holds (log 56); the forward retry lets forwarding begin. Each takes the time base to its moment (log 3). -/
def Obligations.CardTimers : Prop :=
  (∀ (s : State) (t : Time), s.node.core.node.started = true → s.node.w.card.arm = some t → Answers .armLimitExpiry s fun n =>
    n.core = s.node.core ∧ n.w.now = max s.node.w.now t ∧ Rests s.node.w n.w ∧ n.w.card.arm = none ∧
      Untouched [.now, .card, .line, .alerts, .call] s.node.w n.w) ∧
  (∀ (s : State) (t : Time), s.node.core.node.started = true → s.node.w.card.laneRun = some t →
    Answers .laneLimitExpiry s fun n =>
      n.core = s.node.core ∧ n.w.now = max s.node.w.now t ∧ OfflineChecked s.node.core s.node.w n.w ∧
        Untouched [.now, .slot, .card, .records, .line, .alerts, .call] s.node.w n.w) ∧
  (∀ (s : State) (t : Time), s.node.core.node.started = true → s.node.w.card.reply = some t →
    Answers .replyLimitExpiry s fun n =>
      n.core = s.node.core ∧ n.w.now = max s.node.w.now t ∧ OfflineChecked s.node.core s.node.w n.w ∧
        Untouched [.now, .slot, .card, .records, .line, .alerts, .call] s.node.w n.w) ∧
  (∀ (s : State) (t : Time), s.node.w.card.laneRetry = some t → Answers .laneRetryExpiry s fun n =>
    n.core = s.node.core ∧ n.w.now = max s.node.w.now t ∧ n.w.card.laneRetry = none ∧
      n.w.ret.card.txn = s.node.w.ret.card.txn ∧ n.w.ret.card.record = s.node.w.ret.card.record ∧
      n.w.card.reader = s.node.w.card.reader ∧
      (s.node.core.serving = true → s.node.w.ret.card.txn = .laneWait → s.node.w.card.laneAsk = .untilRetry →
        s.node.w.sel.has .card = false → s.node.w.sel.has .hiring = false → s.node.w.card.fwd.busy = false →
        s.node.w.atRest = true →
        Offered .card (.pic (if s.node.core.view.holds .lane s.node.core.me then .give (some .lane)
          else .take (some .lane) s.node.w.ret.card.record.seq)) n.w) ∧
      Untouched [.now, .card] s.node.w n.w) ∧
  (∀ (s : State) (t : Time), s.node.core.node.started = true → s.node.w.card.fwdRetry = some t →
    Answers .forwardRetryExpiry s fun n =>
      let c := s.node.core
      let begins : Prop := c.node = .inService ∧ c.view.inService .gateway = true ∧ c.view.free .lane = true ∧
        c.view.free .close = true ∧ s.node.w.ret.card.txn = .idle ∧ s.node.w.ret.card.forward ≠ []
      n.core = c ∧ n.w.now = max s.node.w.now t ∧ n.w.card.fwdRetry = none ∧
        (begins → n.w.card.fwd = .taking) ∧ (¬begins → n.w.card.fwd = .none) ∧ Untouched [.now, .card] s.node.w n.w)

/-- AUTH_REPLY of a GATEWAY. That of the attempt waiting for it is TAKEN and ends it, APPROVED with its approval code and the amount paid on the slot, or DECLINED. Any other is late: a decline is TAKEN and changes nothing; an approval is TAKEN and takes the OFFLINE entry of its sequence off the forward list, the first case also where a VOID entry of the sequence stands beside it (log 54), else changes nothing where a VOID entry of it waits, else becomes a VOID entry, or in a full list a LATE_APPROVAL record, with the fields remembered for the sequence or, with none, its own and no token; with three such records held it is REFUSED, and nothing is kept. One of another station is REFUSED. -/
def Obligations.AuthReplyDecides : Prop :=
  (∀ (s : State) (src : Station) (r : AuthRep), s.node.core.serving = true → s.node.core.view.hasRole src .gateway = true →
    s.node.w.ret.card.txn = .authWait → s.node.w.ret.card.record.seq = r.seq →
    Answers (.authReply src s.node.core.me r) s fun n =>
      let k := s.node.w.ret.card
      let slot := s.node.w.ret.slot
      n.core = s.node.core ∧ n.w.line.mark = some .taken ∧ n.w.ret.card.txn = .result ∧
      n.w.card.hold = some (s.node.w.now + sec 10) ∧ n.w.card.reply = none ∧
      (r.approved = true → n.w.ret.card.record = { k.record with approval := r.code, result := some .approved } ∧
        n.w.card.reader = s.node.w.card.reader ++ [.result .approved r.text] ∧
        (slot.state = .paying → PayingOn s.node.core s.node.w n.w
          { slot with card := slot.card + min k.record.amount slot.remaining, approval := r.code })) ∧
      (r.approved = false → n.w.ret.card.record = { k.record with result := some (.declined .gateway) } ∧
        n.w.card.reader = s.node.w.card.reader ++ [.result .declined (if slot.attempts = 3 then textRetryLimit else r.text)] ∧
        (slot.state.stands = true → n.w.ret.slot = slot)) ∧
      Untouched [.slot, .card, .records, .line, .store, .alerts, .call] s.node.w n.w) ∧
  (∀ (s : State) (src : Station) (r : AuthRep), s.node.core.serving = true → s.node.core.view.hasRole src .gateway = true →
    (s.node.w.ret.card.txn ≠ .authWait ∨ s.node.w.ret.card.record.seq ≠ r.seq) → Answers (.authReply src s.node.core.me r) s fun n =>
      let k := s.node.w.ret.card
      let late : Tag × Nat × List Byte := match k.memory.find? fun x => x.seq == r.seq with
        | some m => (m.tag, m.amount, m.token)
        | none => (r.tag, r.amount, List.replicate 16 0)
      let record : Record := ⟨.lateApproval r.seq late.1 late.2.1 late.2.2, s.node.core.me, s.node.w.stamp, false⟩
      n.core = s.node.core ∧
      (r.approved = false → n.w.line.mark = some .taken ∧ Untouched [.line, .store] s.node.w n.w) ∧
      (∀ e, r.approved = true → (k.forward.find? fun x => x.seq == r.seq && x.kind == .offline) = some e →
        n.w.line.mark = some .taken ∧ n.w.ret.card.forward = (k.forward.filter fun x => x != e) ∧
        n.w.ret.card.txn = k.txn ∧ n.w.ret.card.record = k.record ∧ n.w.ret.card.offlineCount = k.offlineCount ∧
        Untouched [.card, .line, .store] s.node.w n.w) ∧
      (r.approved = true → (∃ e ∈ k.forward, e.seq = r.seq) → (∀ e ∈ k.forward, e.seq = r.seq → e.kind = .void) →
        n.w.line.mark = some .taken ∧ Untouched [.line, .store] s.node.w n.w) ∧
      (r.approved = true → (∀ e ∈ k.forward, e.seq ≠ r.seq) →
        (k.forward.length < 4 → n.w.line.mark = some .taken ∧
          n.w.ret.card.forward = k.forward ++ [⟨.void, r.seq, late.1, late.2.1, late.2.2, none, s.node.w.stamp⟩] ∧
          n.w.ret.card.txn = k.txn ∧ n.w.ret.card.record = k.record ∧ Untouched [.card, .line, .store] s.node.w n.w) ∧
        (4 ≤ k.forward.length → k.lateCount < 3 → n.w.line.mark = some .taken ∧
          (n.w.recorded record ∨ record ∈ n.w.ret.card.hold) ∧ Untouched [.records, .line, .store, .alerts] s.node.w n.w) ∧
        (4 ≤ k.forward.length → 3 ≤ k.lateCount → n.w.line.mark = some .refused ∧
          Untouched [.line, .store, .alerts] s.node.w n.w))) ∧
  (∀ (s : State) (src : Station) (r : AuthRep), s.node.core.serving = true → s.node.core.view.hasRole src .gateway = false →
    Answers (.authReply src s.node.core.me r) s fun n =>
      n.core = s.node.core ∧ n.w.line.mark = some .refused ∧ Untouched [.line, .store] s.node.w n.w)

/-! ## The journal -/

/-- RECORD_INTAKE_ACCEPT of a record that its producer hands over: it is in the intake, or already in the ring (log 8). HEAD events are handed over at a HEAD only. RING_RECORD_MOVE: the record at the front of the intake enters the half of the write position with the next record number. With nothing to accept or to move, nothing changes. -/
def Obligations.JournalMoves : Prop :=
  (∀ (s : State) (p : RecProducer) (r : Record) (q : Bool), s.node.core.node.journalRuns = true →
    s.node.w.ret.journal.intake.length < 4 → (∀ t ∈ s.node.w.ret.journal.intake, t.producer ≠ p) →
    handed p s.node.w = some (r, q) → (p = .headEvents → s.node.core.straps.role = .head) →
    Answers (.recordIntakeAccept p) s fun n =>
      n.core = s.node.core ∧ n.w.recorded r ∧ Untouched [.slot, .records, .alerts, .call] s.node.w n.w) ∧
  (∀ (s : State) (p : RecProducer), handed p s.node.w = none ∨ p = .headEvents ∧ s.node.core.straps.role = .bay → Answers (.recordIntakeAccept p) s fun n => n = s.node) ∧
  (∀ (s : State) (t : Taken) (rest : List Taken), s.node.core.node.journalRuns = true →
    s.node.w.ret.journal.intake = t :: rest →
    (s.node.w.ret.journal.half (halfOf s.node.w.ret.journal.writePos)).state.waiting = false →
    Answers .ringRecordMove s fun n =>
      let j := s.node.w.ret.journal
      n.core = s.node.core ∧
        ⟨j.counter + 1, t.content⟩ ∈ (n.w.ret.journal.half (halfOf j.writePos)).recs ∧
        (∀ r ∈ rest, n.w.recorded r.content) ∧ Untouched [.slot, .records, .alerts, .call] s.node.w n.w) ∧
  (∀ s : State, (s.node.w.ret.journal.intake = [] ∨
      (s.node.w.ret.journal.half (halfOf s.node.w.ret.journal.writePos)).state.waiting = true) →
    Answers .ringRecordMove s fun n => n = s.node)

/-- JOURNAL_READ of a READY half by the holder of DRAIN, no stream running, is TAKEN: the half is STREAMING and its first record, or the end of an empty half, is offered. JOURNAL_RELEASE by the holder of DRAIN that the half was streamed to frees it. Any other is REFUSED, one whose half field names neither half among them (log 57). -/
def Obligations.JournalReadAndRelease : Prop :=
  (∀ (s : State) (src : Station) (h : Half), s.node.core.serving = true →
    let ring := s.node.w.ret.journal
    let reads : Prop := (s.node.core.view.claim .drain).holder = some src ∧ (ring.half h).state = .ready ∧ s.node.w.stream = none
    (reads → Answers (.journalRead src s.node.core.me (some h)) s fun n =>
      n.core = s.node.core ∧ n.w.line.mark = some .taken ∧
      n.w.ret.journal.half h = { ring.half h with state := .streaming, streamed := none } ∧
      n.w.stream = some ⟨h, src, h.first, 0, (ring.half h).recs.isEmpty⟩ ∧
      (∀ r rest, (ring.half h).recs = r :: rest →
        n.w.sel.waitJournal = some (.journalRecord src h h.first r) ∨
          ∃ o, n.w.sel.bulk = some o ∧ o.frame = .journalRecord src h h.first r) ∧
      Untouched [.records, .line, .store, .stream, .alerts] s.node.w n.w) ∧
    (¬reads → Answers (.journalRead src s.node.core.me (some h)) s fun n =>
      n.core = s.node.core ∧ n.w.line.mark = some .refused ∧ Untouched [.line, .store] s.node.w n.w)) ∧
  (∀ (s : State) (src : Station) (h : Half), s.node.core.serving = true →
    let ring := s.node.w.ret.journal
    let frees : Prop := (s.node.core.view.claim .drain).holder = some src ∧ (ring.half h).state = .ready ∧
      (ring.half h).streamed = some src
    (frees → Answers (.journalRelease src s.node.core.me (some h)) s fun n =>
      n.core = s.node.core ∧ n.w.line.mark = some .taken ∧
      (s.node.w.atRest = true → n.w.ret.journal.half h = ⟨.free, [], none⟩ ∧
        n.w.ret.journal.half h.other = ring.half h.other ∧ n.w.ret.journal.counter = ring.counter ∧
        n.w.ret.journal.writePos = ring.writePos) ∧
      Untouched [.slot, .records, .line, .store, .alerts, .call] s.node.w n.w) ∧
    (¬frees → Answers (.journalRelease src s.node.core.me (some h)) s fun n =>
      n.core = s.node.core ∧ n.w.line.mark = some .refused ∧ Untouched [.line, .store] s.node.w n.w)) ∧
  (∀ (s : State) (src : Station) (i : Instr), s.node.core.serving = true →
    (i = .journalRead src s.node.core.me none ∨ i = .journalRelease src s.node.core.me none) → Answers i s fun n =>
      n.core = s.node.core ∧ n.w.line.mark = some .refused ∧ Untouched [.line, .store] s.node.w n.w)

/-! ## Closing a shift -/

/-- CLOSE_READY of an expected station at the HEAD that is ANSWERING for its shift is TAKEN and noted; when every answer is in, or CLOSE_ANSWER_LIMIT expires, the HEAD decides: COMMIT when no answer says no and all are in, or the close is forced, else ABANDON. Any other CLOSE_READY is REFUSED. The limit takes the time base to its moment (log 3). -/
def Obligations.CloseAnswers : Prop :=
  (∀ (s : State) (src : Station) (shift : Nat) (r : Readiness), s.node.core.serving = true →
    let expects : Prop := s.node.core.straps.role = .head ∧ s.node.w.shift.phase = .answering ∧
      s.node.w.shift.number = shift ∧ ∃ a, (src, a) ∈ s.node.w.shift.expected
    let noted := s.node.w.shift.expected.map fun e => if e.1 = src then (e.1, some r) else e
    (expects → Answers (.closeReady src s.node.core.me shift r) s fun n =>
      n.core = s.node.core ∧ n.w.line.mark = some .taken ∧ n.w.shift.expected = noted ∧
      ((∃ e ∈ noted, e.2 = none) → n.w.shift.phase = .answering ∧ n.w.shift.decision = s.node.w.shift.decision) ∧
      ((∀ e ∈ noted, e.2 ≠ none) → n.w.shift.phase = .decided ∧ n.w.shift.limit = none ∧
        n.w.shift.decision = some (if Agreed noted s.node.w.shift then .closeCommit shift s.node.w.shift.force else .closeAbandon)) ∧
      Untouched [.shift, .line, .store, .alerts] s.node.w n.w) ∧
    (¬expects → Answers (.closeReady src s.node.core.me shift r) s fun n =>
      n.core = s.node.core ∧ n.w.line.mark = some .refused ∧ Untouched [.line, .store] s.node.w n.w)) ∧
  (∀ (s : State) (t : Time), s.node.w.shift.phase = .answering → s.node.w.shift.limit = some t →
    Answers .closeAnswerLimitExpiry s fun n =>
      let sh := s.node.w.shift
      n.core = s.node.core ∧ n.w.now = max s.node.w.now t ∧ n.w.shift.phase = .decided ∧ n.w.shift.limit = none ∧
        n.w.shift.decision = some (if Agreed sh.expected sh then .closeCommit sh.number sh.force else .closeAbandon) ∧
        Untouched [.now, .shift, .alerts] s.node.w n.w)

/-- TALLY of a BAY entry at the HEAD that is COLLECTING for its shift is kept, the first of each station. TALLY_COLLECT_LIMIT: the vehicle summary goes to a record and the table is empty; the summary adds each counter and band total of the HEAD's tally and of every tally taken, saturating, has hired units, empty units and shift seconds from the HEAD alone, the saturation flag of any of them or of a sum that saturates, and up to 4 of the expected stations that sent no tally. TALLY_RETRY_WINDOW: a TALLY not delivered is given up. A TALLY already in the selector still goes out (log 27). Each expiry takes the time base to its moment (log 3). -/
def Obligations.TalliesCollected : Prop :=
  (∀ (s : State) (src : Station) (shift : Nat) (t : TallyVals), s.node.core.serving = true →
    s.node.sends src (.tally shift t) = false →
    let keeps : Prop := s.node.core.straps.role = .head ∧ s.node.w.shift.phase = .collecting ∧ s.node.w.shift.number = shift ∧
      s.node.core.view.hasRole src .bay = true ∧ ∀ e ∈ s.node.w.shift.tallies, e.1 ≠ src
    Answers (.tally src shift t) s fun n =>
      n.core = s.node.core ∧
      (keeps → n.w.shift = { s.node.w.shift with tallies := s.node.w.shift.tallies ++ [(src, t)] } ∧
        Untouched [.shift, .line, .store] s.node.w n.w) ∧
      (¬keeps → Untouched [.line, .store] s.node.w n.w)) ∧
  (∀ (s : State) (t : Time), s.node.core.node.journalRuns = true → s.node.w.shift.phase = .collecting →
    s.node.w.shift.limit = some t → Answers .tallyCollectLimitExpiry s fun n =>
      n.core = s.node.core ∧ n.w.now = max s.node.w.now t ∧
        n.w.shift = { s.node.w.shift with
          phase := .none, number := 0, force := false, expected := [], own := none, tallies := [], limit := none, decision := none } ∧
        (s.node.w.atRest = true → ∃ v, VehicleSummary s.node.w v ∧
          n.w.recorded ⟨.vehicleSummary v, s.node.core.me, s.node.w.stamp, false⟩) ∧
        Untouched [.now, .slot, .shift, .records, .alerts, .call] s.node.w n.w) ∧
  (∀ (s : State) (t : Time), s.node.w.shift.tallyEnd = some t → Answers .tallyRetryWindowExpiry s fun n =>
    n.core = s.node.core ∧ n.w.now = max s.node.w.now t ∧
      n.w.shift = { s.node.w.shift with tallyEnd := none, tallySent := none } ∧ n.w.sel = s.node.w.sel ∧
      Untouched [.now, .shift] s.node.w n.w)

/-- The tally unit at the application of a shift frame that is DONE. SHIFT_OPEN: the copy, the offline count and, at rest, its record and a zeroed tally; at a HEAD an empty close table. CLOSE_CALL of another station in service: its answer waits for the COMMAND slot with this node's readiness. CLOSE_COMMIT at a BAY in service: a forced one turns the forward list into records and withdraws a FORWARD that waits, but for an entry whose FORWARD is begun (log 29); the copy is closed, the SHIFT_CLOSE record is in the hold or on its way, and the tally is to be sent for 5 s under the frame's shift number (log 59). A LISTENER sends none. This node's own frames: SHIFT_OPEN and CLOSE_CALL answer the console; CLOSE_CALL asks every BAY in service for 5 s, CLOSE_COMMIT collects tallies for 5 s, and CLOSE_ABANDON ends the close. -/
def Obligations.ShiftAtANotice : Prop :=
  (∀ (s : State) (src : Station) (n d : Nat) (o : Stamp), MeetsAsHolder src (.shiftOpen n d o) s.node →
    s.node.w.ret.card.txn = .idle → (s.node.core.view.apply src (.shiftOpen n d o)).2 = .done →
    Answers (.shiftOpen src n d o) s fun x =>
      x.w.ret.tally.copy = some ⟨⟨n, d, o⟩, true⟩ ∧ x.w.ret.card.offlineCount = 0 ∧
      (s.node.w.atRest = true → x.w.ret.tally.tally = TallyVals.zero (some n) ∧
        x.w.recorded ⟨.shiftOpen ⟨n, d, o⟩, s.node.core.me, s.node.w.stamp, false⟩) ∧
      (s.node.core.straps.role = .head → x.w.shift.phase = .none ∧ x.w.shift.expected = [] ∧ x.w.shift.tallies = [] ∧
        x.w.shift.limit = none)) ∧
  (∀ (s : State) (src : Station) (n : Nat) (force : Bool), MeetsAsHolder src (.closeCall n force) s.node → s.ringOk = true →
    s.node.core.node = .inService → src ≠ s.node.core.me → (s.node.core.view.apply src (.closeCall n force)).2 = .done →
    Answers (.closeCall src n force) s fun x =>
      x.w.shift = { s.node.w.shift with answered := some ⟨n, force, src⟩ } ∧
        AnswerWaits (.closeReady src n (ReadyToClose s.node.w force)) x.w) ∧
  (∀ (s : State) (src : Station) (n : Nat) (force : Bool), MeetsAsHolder src (.closeCommit n force) s.node →
    s.node.w.ret.card.txn = .idle → (s.node.core.view.apply src (.closeCommit n force)).2 = .done →
    Answers (.closeCommit src n force) s fun x =>
      let w := s.node.w
      let begun (e : FwdEntry) : Prop := ∃ o g, w.sel.bulk = some o ∧ o.frame = .forward g e ∧ 0 < o.attempts
      let r : Record := ⟨.shiftClose w.ret.tally.tally force false, s.node.core.me, w.stamp, false⟩
      x.w.ret.tally.copy = (w.ret.tally.copy.map fun y => { y with isOpen := false }) ∧
      (x.w.recorded r ∨ ∃ h ∈ x.w.ret.tally.hold, h.content = r) ∧ (w.atRest = true → force = false → x.w.recorded r) ∧
      (force = false → x.w.ret.card.forward = w.ret.card.forward) ∧
      (force = true → ∀ e ∈ w.ret.card.forward,
        (begun e → e ∈ x.w.ret.card.forward) ∧
        (¬begun e → e ∉ x.w.ret.card.forward ∧
          let u : Record := ⟨.unsentOffline e, s.node.core.me, w.stamp, false⟩
          (x.w.recorded u ∨ u ∈ x.w.ret.card.hold))) ∧
      (force = true → w.card.fwd = .sending → (∀ e ∈ w.ret.card.forward, ¬begun e) →
        x.w.card.fwd = .giving ∧ x.w.sel.waitForward = none ∧
        ∀ o, x.w.sel.bulk = some o → o.frame.isForward = true → 0 < o.attempts) ∧
      (s.node.core.straps.role = .bay → s.node.core.node = .inService →
        x.w.shift.tallySent = some (n, w.ret.tally.tally) ∧ x.w.shift.tallyEnd = some (w.now + sec 5)) ∧
      (s.node.core.straps.role = .head ∨ s.node.core.node = .listener →
        x.w.shift.tallySent = w.shift.tallySent ∧ x.w.shift.tallyEnd = w.shift.tallyEnd)) ∧
  (∀ (s : State) (m : Marks) (k : SlotId) (a : Offer) (n d : Nat) (o : Stamp), OwnShiftFrame s m k a (.shiftOpen n d o) →
    s.node.w.con.request = some .shiftOpen → Answers (.frameOutcome m) s fun x =>
      x.w.con.request = none ∧ x.w.con.results = s.node.w.con.results ++
        [if (s.node.core.view.apply s.node.core.me (.shiftOpen n d o)).2 = .done then none else some .wrongState]) ∧
  (∀ (s : State) (m : Marks) (k : SlotId) (a : Offer) (n : Nat) (force : Bool), OwnShiftFrame s m k a (.closeCall n force) →
    s.ringOk = true → s.node.w.con.request = some .shiftClose → Answers (.frameOutcome m) s fun x =>
      let r := (s.node.core.view.apply s.node.core.me (.closeCall n force)).2
      let bays := s.node.core.view.roster.filter fun e => e.role == .bay && e.state == .inService
      x.w.con.request = none ∧
      (r = .done → x.w.con.results = s.node.w.con.results ++ [none] ∧ x.w.shift.number = n ∧ x.w.shift.force = force ∧
        x.w.shift.expected = (bays.map fun e => (e.station, none)) ∧ x.w.shift.own = some (ReadyToClose s.node.w force) ∧
        x.w.shift.tallies = [] ∧
        (bays ≠ [] → x.w.shift.phase = .answering ∧ x.w.shift.limit = some (s.node.w.now + sec 5)) ∧
        (bays = [] → x.w.shift.phase = .decided)) ∧
      (∀ y, r = .refused y → x.w.con.results = s.node.w.con.results ++ [some y] ∧ x.w.shift.phase = .none)) ∧
  (∀ (s : State) (m : Marks) (k : SlotId) (a : Offer) (n : Nat) (force : Bool), OwnShiftFrame s m k a (.closeCommit n force) →
    (s.node.core.view.apply s.node.core.me (.closeCommit n force)).2 = .done → Answers (.frameOutcome m) s fun x =>
      x.w.shift.phase = .collecting ∧ x.w.shift.limit = some (s.node.w.now + sec 5) ∧ x.w.shift.decision = none ∧
        x.w.shift.expected = s.node.w.shift.expected) ∧
  (∀ (s : State) (m : Marks) (k : SlotId) (a : Offer), OwnShiftFrame s m k a .closeAbandon →
    (s.node.core.view.apply s.node.core.me .closeAbandon).2 = .done → Answers (.frameOutcome m) s fun x =>
      x.w.shift.phase = .none ∧ x.w.shift.expected = [] ∧ x.w.shift.decision = none ∧ x.w.shift.stray = false)

/-! ## The bay keys and the assist switch -/

/-- The CALL and TALK keys at a BAY that holds the picture. CALL: an idle call goes to the lowest HEAD in service, or sounds the busy tone for 2 s with none, or until the end of one under way (log 14); one that rings in is answered; any other is hung up. TALK: a call that rings in is answered; in a call the press asks for FLOOR with the peer's number, in another call state it only sets key held; the release ends the talk, during an announcement too (log 53). -/
def Obligations.KeysCallAndTalk : Prop :=
  (∀ s : State, s.node.core.straps.role = .bay → CallReady s.node.core s.node.w → s.node.w.keys.call = false →
    Answers (.keyCall true) s fun n =>
      let i := s.node.w.ic
      n.core = s.node.core ∧ n.w.keys = { s.node.w.keys with call := true } ∧ Untouched [.call, .ports] s.node.w n.w ∧
      (∀ h, i.call = .idle → i.list = [] → s.node.core.view.lowest .head = some h →
        CallIs n.w { i with call := .ringingOut, peer := some (.station h), outgoing := true, urgent := false, placed := true,
                            list := [(h, .call false)] }) ∧
      (i.call = .idle → s.node.core.view.lowest .head = none →
        CallIs n.w { i with busy := BusyUntil i.busy (s.node.w.now + sec 2) }) ∧
      (∀ x, i.call = .ringingIn → i.answer = false → i.peer = some (.station x) → CallIs n.w (i.answered x)) ∧
      (∀ x, i.call ≠ .idle → i.call ≠ .ringingIn → i.announce = false → i.peer = some (.station x) → i.talk = .quiet →
        s.node.core.view.free .floor = true → CallIs n.w (i.over (i.list ++ [(x, .ended .hangup)])))) ∧
  (∀ s : State, s.node.core.straps.role = .bay → CallReady s.node.core s.node.w → s.node.w.keys.talk = false →
    s.node.w.ic.announce = false → Answers .keyTalkPress s fun n =>
      let i := s.node.w.ic
      n.core = s.node.core ∧ n.w.keys = { s.node.w.keys with talk := true } ∧ Untouched [.call, .ports] s.node.w n.w ∧
      (∀ x, i.call = .ringingIn → i.answer = false → i.peer = some (.station x) → CallIs n.w (i.answered x)) ∧
      (∀ x, i.call = .connected → i.talk = .quiet → i.peer = some (.station x) →
        CallIs n.w { i with keyHeld := true, talk := .asking } ∧
          (s.node.w.sel.has .intercom = false →
            Offered .intercom (.pic (.take (some .floor) (BitVec.ofNat 16 x.val))) n.w)) ∧
      (i.call ≠ .ringingIn → (i.call ≠ .connected ∨ i.talk ≠ .quiet) → CallIs n.w { i with keyHeld := true })) ∧
  (∀ s : State, s.node.core.straps.role = .bay → s.node.core.serving = true → s.node.w.ret.slot.state.stands = true →
    s.node.w.keys.talk = true → Answers .keyTalkRelease s fun n =>
      n.core = s.node.core ∧ n.w.keys = { s.node.w.keys with talk := false } ∧ TalkReleased s.node.w n.w ∧
        Untouched [.call, .ports] s.node.w n.w)

/-- The PAY key at a BAY in service: an open slot goes to payment; with the slot PAYING the key arms the card for 60 s, or disarms it; with any other slot it is only seen. CARD at a HEAD in service: its PAYING slot is armed for 60 s, one armed for the tag is disarmed; another hiring's tag is NO_SUCH_HIRING, any other case WRONG_STATE. -/
def Obligations.PayKeyAndCardRequest : Prop :=
  (∀ s : State, s.node.core.straps.role = .bay → s.node.core.node = .inService → s.node.w.keys.pay = false →
    s.node.w.ret.slot.isOpen → Answers (.keyPay true) s fun n =>
      n.core = s.node.core ∧ n.w.keys = { s.node.w.keys with pay := true } ∧
        PayingOn s.node.core s.node.w n.w { s.node.w.ret.slot with state := .paying } ∧
        Untouched [.slot, .records, .alerts, .call, .ports] s.node.w n.w) ∧
  (∀ s : State, s.node.core.straps.role = .bay → s.node.core.node = .inService → s.node.w.keys.pay = false →
    MayPayByCard s.node.w → Answers (.keyPay true) s fun n =>
      n.core = s.node.core ∧ n.w.keys = { s.node.w.keys with pay := true } ∧ Arms s.node.w n.w ∧
        Untouched [.card, .alerts, .call, .ports] s.node.w n.w) ∧
  (∀ s : State, s.node.core.straps.role = .bay → s.node.core.node = .inService → s.node.w.keys.pay = false →
    s.node.w.ret.slot.state = .paying → s.node.w.ret.card.txn = .armed → s.node.w.ret.card.record.tag = s.node.w.ret.slot.tag →
    Answers (.keyPay true) s fun n =>
      n.core = s.node.core ∧ n.w.keys = { s.node.w.keys with pay := true } ∧ Rests s.node.w n.w ∧ n.w.card.arm = none ∧
        Untouched [.card, .alerts, .call, .ports] s.node.w n.w) ∧
  (∀ s : State, s.node.core.straps.role = .bay → s.node.core.node.started = true → s.node.w.keys.pay = false →
    (s.node.core.node ≠ .inService ∨ ¬s.node.w.ret.slot.isOpen ∧ s.node.w.ret.slot.state ≠ .paying) →
    Answers (.keyPay true) s fun n =>
      n.core = s.node.core ∧ n.w.keys = { s.node.w.keys with pay := true } ∧ Untouched [.ports] s.node.w n.w) ∧
  (∀ (s : State) (tag : Tag), ConsoleReady s.node.core s.node.w → Answers (.consoleCard tag) s fun n =>
      let mine := s.node.w.ret.slot.carries tag
      let armed : Prop := s.node.w.ret.card.txn = .armed ∧ s.node.w.ret.card.record.tag = tag
      n.core = s.node.core ∧
      (mine → MayPayByCard s.node.w → Told s.node.w n.w none ∧ Arms s.node.w n.w ∧ Untouched [.card, .console] s.node.w n.w) ∧
      (mine → armed → Told s.node.w n.w none ∧ Rests s.node.w n.w ∧ n.w.card.arm = none ∧
        Untouched [.card, .console] s.node.w n.w) ∧
      (mine → ¬MayPayByCard s.node.w → ¬armed → Told s.node.w n.w (some .wrongState) ∧ Untouched [.console] s.node.w n.w) ∧
      (¬mine → Told s.node.w n.w (some .noSuchHiring) ∧ Untouched [.console] s.node.w n.w))

/-- The QUIET key of a BAY toggles QUIET and with it the mask: set, it takes the NORMAL items off the alert line; cleared, it hands the pending set over and a held call rings. The START key, where the configuration lets passengers start, asks for all the node's seats SHARED. A key that is down makes no second press, and its release is only seen (log 22). -/
def Obligations.KeysQuietAndStart : Prop :=
  (∀ s : State, s.node.core.straps.role = .bay → s.node.core.node.started = true → s.node.w.atRest = true →
    s.node.w.keys.quiet = false → Answers (.keyQuiet true) s fun n =>
      let a := s.node.w.alerts
      let i := s.node.w.ic
      let m := !a.quietKey || decide (s.node.w.ret.card.txn ≠ .idle)
      n.core = s.node.core ∧ n.w.keys = { s.node.w.keys with quiet := true } ∧ n.w.alerts.quietKey = !a.quietKey ∧
      n.w.alerts.mask = m ∧ Untouched [.alerts, .call, .ports] s.node.w n.w ∧
      (m = a.mask → n.w.alerts.showing = a.showing ∧ n.w.alerts.showQueue = a.showQueue ∧ n.w.alerts.pending = a.pending) ∧
      (m = true → a.mask = false → (∀ x ∈ n.w.alerts.showQueue, x.urgent = true) ∧
        ∀ x t, n.w.alerts.showing = some (x, t) → x.urgent = true) ∧
      (m = false → a.mask = true → n.w.alerts.pending = []) ∧
      (i.talk ≠ .asking → m ≠ a.mask → (m = true ∨ i.call ≠ .heldIn) → CallIs n.w { i with mask := m }) ∧
      (∀ x, i.talk ≠ .asking → m = false → a.mask = true → i.call = .heldIn → i.peer = some (.station x) →
        CallIs n.w { i with mask := false, call := .ringingIn, ring := some (s.node.w.now + sec 30), tone := some .ring,
                            list := i.list ++ [(x, .resumed)] })) ∧
  (∀ s : State, s.node.core.straps.role = .bay → s.node.core.node = .inService → s.node.w.keys.start = false →
    Answers (.keyStart true) s fun n =>
      let ask : HireCmd := .start s.node.core.cfg.seatMask (some .shared)
      n.core = s.node.core ∧ n.w.keys = { s.node.w.keys with start := true } ∧
      (s.node.core.cfg.passengerStart = true → Obeys s.node.core s.node.w ask →
        Obeyed s.node.core s.node.w n.w ask ∧ Untouched [.slot, .alerts, .call, .ports] s.node.w n.w) ∧
      (s.node.core.cfg.passengerStart = true → ¬Obeys s.node.core s.node.w ask →
        Untouched [.alerts, .ports] s.node.w n.w) ∧
      (s.node.core.cfg.passengerStart = false → Untouched [.ports] s.node.w n.w)) ∧
  (∀ (s : State) (down : Bool), s.node.core.straps.role = .bay → s.node.core.node.started = true →
    let only (k : Keys) (n : Node) : Prop := n = { s.node with w := { s.node.w with keys := k } }
    (down = false ∨ s.node.w.keys.call = true → Answers (.keyCall down) s (only { s.node.w.keys with call := down })) ∧
    (down = false ∨ s.node.w.keys.pay = true → Answers (.keyPay down) s (only { s.node.w.keys with pay := down })) ∧
    (down = false ∨ s.node.w.keys.quiet = true → Answers (.keyQuiet down) s (only { s.node.w.keys with quiet := down })) ∧
    (down = false ∨ s.node.w.keys.start = true → Answers (.keyStart down) s (only { s.node.w.keys with start := down })))

/-- ASSIST_SWITCH_CLOSE at the HEAD sets the assist request mark, and in service TAKE(ASSIST, 0) is offered; ASSIST_OFF clears it and offers GIVE(ASSIST). At a BAY the switch does nothing. -/
def Obligations.AssistRequests : Prop :=
  (∀ s : State, s.node.core.straps.role = .head → s.node.core.node.started = true → Answers .assistSwitchClose s fun n =>
    n.core = s.node.core ∧ n.w.assist = true ∧ n.w.keys = s.node.w.keys ∧ Untouched [.ports] s.node.w n.w ∧
      (s.node.core.node = .inService → s.node.w.con.request ≠ some .assistOff → s.node.w.sel.has .assist = false →
        Offered .assist (.pic (.take (some .assist) 0)) n.w)) ∧
  (∀ s : State, ConsoleReady s.node.core s.node.w → Answers .consoleAssistOff s fun n =>
    n.core = s.node.core ∧ Opens s.node.w n.w .assistOff ∧ n.w.assist = false ∧ n.w.keys = s.node.w.keys ∧
      Untouched [.ports, .console] s.node.w n.w ∧
      (s.node.w.sel.has .assist = false → Offered .assist (.pic (.give (some .assist))) n.w)) ∧
  (∀ s : State, s.node.core.straps.role = .bay → Answers .assistSwitchClose s fun n => n = s.node)

/-! ## The console -/

/-- A request at a HEAD: a HALTED node answers NOT_IN_SERVICE; a request in progress gives BUSY and is not disturbed; a node line state that does not take it gives NOT_IN_SERVICE, and a kind unknown WRONG_STATE. A BAY answers nothing. A HALTED HEAD answers an unknown kind as it does a request (log 34). -/
def Obligations.ConsoleTurnsAway : Prop :=
  (∀ (i : Instr) (s : State) (takenIn : NodeState → Bool), requestStates i = some takenIn →
    s.node.core.straps.role = .head → s.node.core.node.started = true →
    (s.node.core.node = .halted → Answers i s fun n =>
      n.core = s.node.core ∧ Told s.node.w n.w (some .notInService) ∧ Untouched [.console] s.node.w n.w) ∧
    (s.node.core.node ≠ .halted → s.node.w.con.request ≠ none → Answers i s fun n =>
      n.core = s.node.core ∧ Told s.node.w n.w (some .busy) ∧ Untouched [.console] s.node.w n.w) ∧
    (s.node.w.con.request = none → takenIn s.node.core.node = false → Answers i s fun n =>
      n.core = s.node.core ∧ Told s.node.w n.w (some .notInService) ∧ Untouched [.console] s.node.w n.w)) ∧
  (∀ (kind : Byte) (s : State), consoleKindKnown kind = false → s.node.core.straps.role = .head →
    s.node.core.node.started = true → s.node.core.node ≠ .halted → s.node.w.con.request = none →
    Answers (.consoleUnknownRequest kind) s fun n =>
      n.core = s.node.core ∧ Told s.node.w n.w (some .wrongState) ∧ Untouched [.console] s.node.w n.w) ∧
  (∀ (i : Instr) (s : State) (takenIn : NodeState → Bool), requestStates i = some takenIn →
    s.node.core.straps.role = .bay → Answers i s fun n => n = s.node)

/-- The hiring requests at a HEAD in service: for its own slot the command is obeyed and answered DONE, or refused with its reason; while its own entry is not that of a HEAD in service it is refused with WRONG_STATE, a START whose preconditions fail with their reason (log 52); for a BAY's it goes out as a HIRE_COMMAND and stays in progress; for an orphan, an unknown hiring or a station that is no BAY in service it is refused. -/
def Obligations.ConsoleHiringRequests : Prop :=
  (∀ (s : State) (cmd : HireCmd), ConsoleReady s.node.core s.node.w → (∀ t, hireTag cmd = some t → t.home = s.node.core.me) →
    Answers (hireRequest s.node.core.me cmd) s fun n =>
      n.core = s.node.core ∧
      let heard := InServiceHead s.node.core.view s.node.core.me
      (heard → Obeys s.node.core s.node.w cmd → Told s.node.w n.w none ∧ Obeyed s.node.core s.node.w n.w cmd ∧
        Untouched [.slot, .records, .alerts, .call, .console] s.node.w n.w) ∧
      (¬(heard ∧ Obeys s.node.core s.node.w cmd) → (hireTag cmd ≠ none ∨ Obeys s.node.core s.node.w cmd) →
        Told s.node.w n.w (some .wrongState) ∧ Untouched [.console] s.node.w n.w)) ∧
  (∀ (s : State) (seats : SeatSet) (mode : Option Mode) (b : Bool) (r : Reason), ConsoleReady s.node.core s.node.w →
    ((startChecks s.node.core s.node.w seats mode).find? fun k => !k.1) = some (b, r) →
    Answers (.consoleStartHire s.node.core.me seats mode) s fun n =>
      n.core = s.node.core ∧ Told s.node.w n.w (some r) ∧ Untouched [.alerts, .console] s.node.w n.w) ∧
  (∀ (s : State) (dst : Station) (cmd : HireCmd), ConsoleReady s.node.core s.node.w → dst ≠ s.node.core.me →
    (∀ t, hireTag cmd = some t → t.home = dst) → Answers (hireRequest dst cmd) s fun n =>
      let p := s.node.core.view
      let relays : Prop := match hireTag cmd with
        | none => BayInService p dst
        | some t => (∃ h, p.hiring t = some h ∧ h.isOrphan = false) ∨ p.hiring t = none ∧ BayInService p dst
      let reason : Reason := match hireTag cmd with
        | none => .notInService
        | some t => if p.hiring t = none then .noSuchHiring else .wrongState
      n.core = s.node.core ∧ Untouched [.console] s.node.w n.w ∧
      (relays → Opens s.node.w n.w .hire ∧
        (s.node.w.sel.command = none →
          ∃ o, n.w.sel.command = some o ∧ o.frame = .hireCommand dst cmd ∧ o.purpose = .console ∧ o.attempts = 0) ∧
        (s.node.w.sel.command ≠ none →
          n.w.sel.command = s.node.w.sel.command ∧ n.w.sel.waitConsole = some (.hireCommand dst cmd))) ∧
      (¬relays → Told s.node.w n.w (some reason)))

/-- The intercom requests at a HEAD that holds the picture, in the call states that take them; in any other each is refused with WRONG_STATE. CALL places a call to a BAY, or begins an announcement with TAKE(FLOOR, 16), the floor of a talk still ENDING given back before it (log 39); ANSWER, TALK_PRESS, TALK_RELEASE and HANGUP are done at once; a HANGUP of an announcement is a TALK_RELEASE, key held cleared too (log 53). -/
def Obligations.ConsoleCalls : Prop :=
  ∀ s : State, s.node.core.straps.role = .head → CallReady s.node.core s.node.w → s.node.w.con.request = none →
    let i := s.node.w.ic
    let refused (n : Node) : Prop := n.core = s.node.core ∧ Told s.node.w n.w (some .wrongState) ∧ Untouched [.console] s.node.w n.w
    let done (n : Node) : Prop := n.core = s.node.core ∧ Told s.node.w n.w none ∧ Untouched [.call, .console] s.node.w n.w
    (∀ (x : Station) (urgent : Bool), i.call = .idle → i.list = [] → s.node.core.view.present x .bay = true →
      Answers (.consoleCall (.station x) urgent) s fun n =>
        n.core = s.node.core ∧ Opens s.node.w n.w .call ∧ Untouched [.call, .console] s.node.w n.w ∧
        CallIs n.w { i with call := .ringingOut, peer := some (.station x), outgoing := true, urgent := urgent, placed := true,
                            list := [(x, .call urgent)] } ∧
        (s.node.w.sel.call = none → i.handed = false →
          ∃ o, n.w.sel.call = some o ∧ o.frame = .call x (.call urgent) ∧ o.purpose = .console ∧ o.attempts = 0)) ∧
    (∀ urgent : Bool, i.call = .idle → i.list = [] → Answers (.consoleCall .all urgent) s fun n =>
      n.core = s.node.core ∧ Opens s.node.w n.w .announce ∧ Untouched [.call, .console] s.node.w n.w ∧
      CallIs n.w { i with call := .connected, peer := some .all, outgoing := true, keyHeld := true, talk := .asking,
                          talkBusy := none } ∧
      (i.talk ≠ .ending → s.node.w.sel.has .intercom = false → Offered .intercom (.pic (.take (some .floor) 16)) n.w) ∧
      (i.talk = .ending → s.node.w.sel.has .intercom = false → s.node.w.sel.voice = none →
        Offered .intercom (.pic (.give (some .floor))) n.w)) ∧
    (∀ (d : Dest) (urgent : Bool),
      (i.call ≠ .idle ∨ i.list ≠ [] ∨ ∃ x, d = .station x ∧ s.node.core.view.present x .bay = false) →
      Answers (.consoleCall d urgent) s refused) ∧
    (∀ x, i.call = .connected → i.peer = some (.station x) → i.talk = .quiet → i.announce = false →
      Answers .consoleTalkPress s fun n => done n ∧ CallIs n.w { i with keyHeld := true, talk := .asking } ∧
        (s.node.w.sel.has .intercom = false → Offered .intercom (.pic (.take (some .floor) (BitVec.ofNat 16 x.val))) n.w)) ∧
    (i.call = .connected → i.peer = some .all → Answers .consoleTalkPress s fun n => done n ∧ CallIs n.w i) ∧
    (i.call ≠ .connected → Answers .consoleTalkPress s refused ∧ Answers .consoleTalkRelease s refused) ∧
    (i.call = .connected → Answers .consoleTalkRelease s fun n => done n ∧ TalkReleased s.node.w n.w) ∧
    (∀ x, i.call = .ringingIn → i.peer = some (.station x) → i.answer = false →
      Answers .consoleAnswer s fun n => done n ∧ CallIs n.w (i.answered x)) ∧
    (i.call ≠ .ringingIn → Answers .consoleAnswer s refused) ∧
    (∀ x, i.call ≠ .idle → i.peer = some (.station x) → i.talk = .quiet →
      Answers .consoleHangup s fun n => done n ∧ CallIs n.w (i.over (i.list ++ [(x, .ended .hangup)]))) ∧
    (i.call = .connected → i.peer = some .all → Answers .consoleHangup s fun n => done n ∧ TalkReleased s.node.w n.w) ∧
    (i.call = .idle → Answers .consoleHangup s refused)

/-- SHIFT_OPEN at a HEAD in service with SHIFT free: the shift counter advances, 65535 to 1, and SHIFT_OPEN of its number is offered; it is refused for a driver outside 1 to 9999, a shift open, or a close collecting. SHIFT_CLOSE with SHIFT held and CLOSE free begins CALLING and offers CLOSE_CALL. -/
def Obligations.ConsoleShiftRequests : Prop :=
  (∀ (s : State) (driver : Nat), ConsoleReady s.node.core s.node.w → Answers (.consoleShiftOpen driver) s fun n =>
    let t := s.node.w.ret.tally
    let number := if 65535 ≤ t.counter then 1 else t.counter + 1
    let named : Prop := 1 ≤ driver ∧ driver ≤ 9999 ∧ (s.node.core.view.claim .shift).holder = none
    n.core = s.node.core ∧
    (named → s.node.w.shift.phase ≠ .collecting → Opens s.node.w n.w .shiftOpen ∧ n.w.ret.tally.counter = number ∧
      n.w.ret.tally.copy = t.copy ∧ n.w.shift = s.node.w.shift ∧
      (s.node.w.sel.has .tally = false → Offered .tally (.pic (.shiftOpen number driver s.node.w.stamp)) n.w) ∧
      Untouched [.shift, .console] s.node.w n.w) ∧
    (named → s.node.w.shift.phase = .collecting → Told s.node.w n.w (some .closing) ∧ Untouched [.console] s.node.w n.w) ∧
    (¬named → Told s.node.w n.w (some .wrongState) ∧ Untouched [.console] s.node.w n.w)) ∧
  (∀ (s : State) (force : Bool), ConsoleReady s.node.core s.node.w → Answers (.consoleShiftClose force) s fun n =>
    let word := s.node.core.view.claim .shift
    let free : Prop := (s.node.core.view.claim .close).holder = none ∧ s.node.w.shift.phase = .none
    n.core = s.node.core ∧
    (word.holder = none → Told s.node.w n.w (some .offShift) ∧ Untouched [.console] s.node.w n.w) ∧
    (word.holder ≠ none → ¬free → Told s.node.w n.w (some .closing) ∧ Untouched [.console] s.node.w n.w) ∧
    (word.holder ≠ none → free → Opens s.node.w n.w .shiftClose ∧
      n.w.shift = { s.node.w.shift with phase := .calling, number := word.tag.toNat, force := force } ∧
      n.w.ret.tally.copy = s.node.w.ret.tally.copy ∧ n.w.ret.tally.counter = s.node.w.ret.tally.counter ∧
      (s.node.w.sel.has .tally = false → Offered .tally (.pic (.closeCall word.tag.toNat force)) n.w) ∧
      Untouched [.shift, .console] s.node.w n.w))

/-- SET_TIME of a real date-time sets the HEAD's clock, records it and sends TIME; CLEAR_ORPHAN of an orphan offers its HIRE_CLOSE; FORCE_CLAIM offers SEIZE of FLOOR, tagged with this node's number, or of LANE, while the word's unit is at rest. Any other is refused, with WRONG_STATE or NO_SUCH_HIRING. -/
def Obligations.ConsoleTimeOrphanForce : Prop :=
  (∀ (s : State) (d : DateTime), ConsoleReady s.node.core s.node.w → Answers (.consoleSetTime d) s fun n =>
    n.core = s.node.core ∧
    (d.real = true → Opens s.node.w n.w .setTime ∧ n.w.ret.clock = some d.secs ∧
      n.w.meter.band = s.node.core.cfg.bandAt (some d.secs) ∧
      (s.node.w.atRest = true → n.w.recorded
        { body := .timeSet s.node.w.ret.clock d.secs .console, origin := s.node.core.me, time := ⟨d.secs, false⟩,
          eventsLost := s.node.w.ret.journal.headLost }) ∧
      (s.node.w.sel.meter = none →
        ∃ o, n.w.sel.meter = some o ∧ o.frame = .time d.secs ∧ o.purpose = .console ∧ o.attempts = 0) ∧
      Untouched [.clock, .meter, .slot, .records, .alerts, .console] s.node.w n.w) ∧
    (d.real = false → Told s.node.w n.w (some .wrongState) ∧ Untouched [.console] s.node.w n.w)) ∧
  (∀ (s : State) (tag : Tag), ConsoleReady s.node.core s.node.w → Answers (.consoleClearOrphan tag) s fun n =>
    n.core = s.node.core ∧ Untouched [.console] s.node.w n.w ∧
    (s.node.core.view.hiring tag = none → Told s.node.w n.w (some .noSuchHiring)) ∧
    (∀ h, s.node.core.view.hiring tag = some h → h.isOrphan = false → Told s.node.w n.w (some .wrongState)) ∧
    (∀ h, s.node.core.view.hiring tag = some h → h.isOrphan = true → Opens s.node.w n.w (.clearOrphan tag) ∧
      (s.node.w.sel.has .hiring = false → Offered .hiring (.pic (.hireClose tag)) n.w))) ∧
  (∀ s : State, ConsoleReady s.node.core s.node.w →
    let floor : Prop := s.node.w.ic.talk = .quiet ∧ s.node.w.sel.has .intercom = false
    let lane : Prop := s.node.w.ret.card.txn = .idle ∧ s.node.w.card.fwd.busy = false ∧ s.node.w.sel.has .card = false
    let refused (n : Node) : Prop := n.core = s.node.core ∧ Told s.node.w n.w (some .wrongState) ∧ Untouched [.console] s.node.w n.w
    (floor → Answers (.consoleForceClaim .floor) s fun n => n.core = s.node.core ∧ Opens s.node.w n.w .forceFloor ∧
      Offered .intercom (.pic (.seize (some .floor) (BitVec.ofNat 16 s.node.core.me.val))) n.w ∧
      Untouched [.console] s.node.w n.w) ∧
    (¬floor → Answers (.consoleForceClaim .floor) s refused) ∧
    (lane → Answers (.consoleForceClaim .lane) s fun n => n.core = s.node.core ∧ Opens s.node.w n.w .forceLane ∧
      n.w.card.force = true ∧ n.w.ret.card.txn = .idle ∧ Offered .card (.pic (.seize (some .lane) 0)) n.w ∧
      Untouched [.card, .console] s.node.w n.w) ∧
    (¬lane → Answers (.consoleForceClaim .lane) s refused))

/-- STATUS_ASK is answered DONE, at rest after the report STATUS. The receiver looks for a start byte and assembles the message behind it: one whose length is above 100 is discarded at its length byte, one whose check is wrong with its last byte, and a gap discards a message that is not whole; none is answered, and a whole good message stands until the next byte (log 43). A message sent makes way for the next of the output queue. -/
def Obligations.ConsoleLink : Prop :=
  (∀ s : State, s.node.core.straps.role = .head → s.node.core.node.started = true → s.node.core.node ≠ .halted →
    s.node.w.con.request = none → Answers .consoleStatusAsk s fun n =>
      n.core = s.node.core ∧ Told s.node.w n.w none ∧ Untouched [.console] s.node.w n.w ∧
      (Quiescent s.node.w → n.w.con =
        (s.node.w.con.push (.report (.status (statusView s.node.core s.node.w)))).push (.result none))) ∧
  (∀ (s : State) (bytes : List Byte), s.node.core.straps.role = .head → s.node.core.node.started = true →
    let rx := bytes.foldl linkReceive s.node.w.con.rx
    let receives (l : List Byte) (n : Node) : Prop := n = { s.node with w := { s.node.w with con := { s.node.w.con with rx := l } } }
    Answers (.consoleMessageDiscard bytes) s (receives rx) ∧
      (linkGood rx = true → Answers (.consoleByteGapExpiry bytes) s (receives rx)) ∧
      (linkGood rx = false → Answers (.consoleByteGapExpiry bytes) s (receives []))) ∧
  (∀ (s : State) (bytes : List Byte), s.node.core.straps.role = .bay ∨ s.node.core.node.started = false →
    (Answers (.consoleMessageDiscard bytes) s fun n => n = s.node) ∧ Answers (.consoleByteGapExpiry bytes) s fun n => n = s.node) ∧
  (∀ rx : List Byte, rx = [] ∨ linkGood rx = true →
    (∀ b, linkReceive rx b = if b = startByte then [b] else []) ∧
    (∀ (len kind : Byte) (payload check : List Byte), payload.length = len.toNat → payload.length ≤ 100 → check.length = 2 →
      [startByte, len, kind].foldl linkReceive rx = [startByte, len, kind] ∧
      (startByte :: len :: kind :: payload ++ check).foldl linkReceive rx =
        if crcBytes (len :: kind :: payload) = BitVec.ofNat 16 (beNat check) then startByte :: len :: kind :: payload ++ check
        else []) ∧
    (∀ len : Byte, 100 < len.toNat → [startByte, len].foldl linkReceive rx = [])) ∧
  (∀ s : State, Answers .consoleMessageSent s fun n =>
    n.core = s.node.core ∧ Untouched [.console] s.node.w n.w ∧ n.w.sel = s.node.w.sel ∧
    n.w.con.request = s.node.w.con.request ∧ n.w.con.rx = s.node.w.con.rx ∧
    (s.node.w.con.queue = [] → n.w.con.sending = none ∧ n.w.con.queue = []) ∧
    (∀ m rest, s.node.w.con.queue = m :: rest → n.w.con.sending = some m ∧ n.w.con.queue = rest))
end

