-- ==== Sys2Proof/Laws/State.lean ====
section
/-! SUPPORT. One lemma for each field under each named update of the state, all true by rfl, and what a command's two ways of answering give. -/

namespace Sys2Proof.Machine

/-! ## Answering -/

@[simp] theorem onWork_next (f : Core → Work → Work) (s : State) :
    onWork f s = .next ⟨s.pending, ⟨s.node.core, f s.node.core s.node.w⟩⟩ := rfl

@[simp] theorem onNode_next (f : Node → Node) (s : State) : onNode f s = .next ⟨s.pending, f s.node⟩ := rfl

/-! ## onSlot -/

@[simp] theorem onSlot_now (w : Work) (f : Slot → Slot) : (w.onSlot f).now = w.now := rfl
@[simp] theorem onSlot_free (w : Work) (f : Slot → Slot) : (w.onSlot f).free = w.free := rfl
@[simp] theorem onSlot_line (w : Work) (f : Slot → Slot) : (w.onSlot f).line = w.line := rfl
@[simp] theorem onSlot_sel (w : Work) (f : Slot → Slot) : (w.onSlot f).sel = w.sel := rfl
@[simp] theorem onSlot_store (w : Work) (f : Slot → Slot) : (w.onSlot f).store = w.store := rfl
@[simp] theorem onSlot_join (w : Work) (f : Slot → Slot) : (w.onSlot f).join = w.join := rfl
@[simp] theorem onSlot_meter (w : Work) (f : Slot → Slot) : (w.onSlot f).meter = w.meter := rfl
@[simp] theorem onSlot_hire (w : Work) (f : Slot → Slot) : (w.onSlot f).hire = w.hire := rfl
@[simp] theorem onSlot_sign (w : Work) (f : Slot → Slot) : (w.onSlot f).sign = w.sign := rfl
@[simp] theorem onSlot_alerts (w : Work) (f : Slot → Slot) : (w.onSlot f).alerts = w.alerts := rfl
@[simp] theorem onSlot_ic (w : Work) (f : Slot → Slot) : (w.onSlot f).ic = w.ic := rfl
@[simp] theorem onSlot_card (w : Work) (f : Slot → Slot) : (w.onSlot f).card = w.card := rfl
@[simp] theorem onSlot_stream (w : Work) (f : Slot → Slot) : (w.onSlot f).stream = w.stream := rfl
@[simp] theorem onSlot_shift (w : Work) (f : Slot → Slot) : (w.onSlot f).shift = w.shift := rfl
@[simp] theorem onSlot_con (w : Work) (f : Slot → Slot) : (w.onSlot f).con = w.con := rfl
@[simp] theorem onSlot_keys (w : Work) (f : Slot → Slot) : (w.onSlot f).keys = w.keys := rfl
@[simp] theorem onSlot_assist (w : Work) (f : Slot → Slot) : (w.onSlot f).assist = w.assist := rfl
@[simp] theorem onSlot_ret_valid (w : Work) (f : Slot → Slot) : (w.onSlot f).ret.valid = w.ret.valid := rfl
@[simp] theorem onSlot_ret_slot (w : Work) (f : Slot → Slot) : (w.onSlot f).ret.slot = f w.ret.slot := rfl
@[simp] theorem onSlot_ret_lastSeq (w : Work) (f : Slot → Slot) : (w.onSlot f).ret.lastSeq = w.ret.lastSeq := rfl
@[simp] theorem onSlot_ret_card (w : Work) (f : Slot → Slot) : (w.onSlot f).ret.card = w.ret.card := rfl
@[simp] theorem onSlot_ret_journal (w : Work) (f : Slot → Slot) : (w.onSlot f).ret.journal = w.ret.journal := rfl
@[simp] theorem onSlot_ret_tally (w : Work) (f : Slot → Slot) : (w.onSlot f).ret.tally = w.ret.tally := rfl
@[simp] theorem onSlot_ret_clock (w : Work) (f : Slot → Slot) : (w.onSlot f).ret.clock = w.ret.clock := rfl
@[simp] theorem onSlot_ret_running (w : Work) (f : Slot → Slot) : (w.onSlot f).ret.running = w.ret.running := rfl
@[simp] theorem onSlot_ret_lastRunning (w : Work) (f : Slot → Slot) : (w.onSlot f).ret.lastRunning = w.ret.lastRunning := rfl

/-! ## onCard -/

@[simp] theorem onCard_now (w : Work) (f : Card → Card) : (w.onCard f).now = w.now := rfl
@[simp] theorem onCard_free (w : Work) (f : Card → Card) : (w.onCard f).free = w.free := rfl
@[simp] theorem onCard_ret (w : Work) (f : Card → Card) : (w.onCard f).ret = w.ret := rfl
@[simp] theorem onCard_line (w : Work) (f : Card → Card) : (w.onCard f).line = w.line := rfl
@[simp] theorem onCard_sel (w : Work) (f : Card → Card) : (w.onCard f).sel = w.sel := rfl
@[simp] theorem onCard_store (w : Work) (f : Card → Card) : (w.onCard f).store = w.store := rfl
@[simp] theorem onCard_join (w : Work) (f : Card → Card) : (w.onCard f).join = w.join := rfl
@[simp] theorem onCard_meter (w : Work) (f : Card → Card) : (w.onCard f).meter = w.meter := rfl
@[simp] theorem onCard_hire (w : Work) (f : Card → Card) : (w.onCard f).hire = w.hire := rfl
@[simp] theorem onCard_sign (w : Work) (f : Card → Card) : (w.onCard f).sign = w.sign := rfl
@[simp] theorem onCard_alerts (w : Work) (f : Card → Card) : (w.onCard f).alerts = w.alerts := rfl
@[simp] theorem onCard_ic (w : Work) (f : Card → Card) : (w.onCard f).ic = w.ic := rfl
@[simp] theorem onCard_card (w : Work) (f : Card → Card) : (w.onCard f).card = f w.card := rfl
@[simp] theorem onCard_stream (w : Work) (f : Card → Card) : (w.onCard f).stream = w.stream := rfl
@[simp] theorem onCard_shift (w : Work) (f : Card → Card) : (w.onCard f).shift = w.shift := rfl
@[simp] theorem onCard_con (w : Work) (f : Card → Card) : (w.onCard f).con = w.con := rfl
@[simp] theorem onCard_keys (w : Work) (f : Card → Card) : (w.onCard f).keys = w.keys := rfl
@[simp] theorem onCard_assist (w : Work) (f : Card → Card) : (w.onCard f).assist = w.assist := rfl

/-! ## onCardRet -/

@[simp] theorem onCardRet_now (w : Work) (f : CardRet → CardRet) : (w.onCardRet f).now = w.now := rfl
@[simp] theorem onCardRet_free (w : Work) (f : CardRet → CardRet) : (w.onCardRet f).free = w.free := rfl
@[simp] theorem onCardRet_line (w : Work) (f : CardRet → CardRet) : (w.onCardRet f).line = w.line := rfl
@[simp] theorem onCardRet_sel (w : Work) (f : CardRet → CardRet) : (w.onCardRet f).sel = w.sel := rfl
@[simp] theorem onCardRet_store (w : Work) (f : CardRet → CardRet) : (w.onCardRet f).store = w.store := rfl
@[simp] theorem onCardRet_join (w : Work) (f : CardRet → CardRet) : (w.onCardRet f).join = w.join := rfl
@[simp] theorem onCardRet_meter (w : Work) (f : CardRet → CardRet) : (w.onCardRet f).meter = w.meter := rfl
@[simp] theorem onCardRet_hire (w : Work) (f : CardRet → CardRet) : (w.onCardRet f).hire = w.hire := rfl
@[simp] theorem onCardRet_sign (w : Work) (f : CardRet → CardRet) : (w.onCardRet f).sign = w.sign := rfl
@[simp] theorem onCardRet_alerts (w : Work) (f : CardRet → CardRet) : (w.onCardRet f).alerts = w.alerts := rfl
@[simp] theorem onCardRet_ic (w : Work) (f : CardRet → CardRet) : (w.onCardRet f).ic = w.ic := rfl
@[simp] theorem onCardRet_card (w : Work) (f : CardRet → CardRet) : (w.onCardRet f).card = w.card := rfl
@[simp] theorem onCardRet_stream (w : Work) (f : CardRet → CardRet) : (w.onCardRet f).stream = w.stream := rfl
@[simp] theorem onCardRet_shift (w : Work) (f : CardRet → CardRet) : (w.onCardRet f).shift = w.shift := rfl
@[simp] theorem onCardRet_con (w : Work) (f : CardRet → CardRet) : (w.onCardRet f).con = w.con := rfl
@[simp] theorem onCardRet_keys (w : Work) (f : CardRet → CardRet) : (w.onCardRet f).keys = w.keys := rfl
@[simp] theorem onCardRet_assist (w : Work) (f : CardRet → CardRet) : (w.onCardRet f).assist = w.assist := rfl
@[simp] theorem onCardRet_ret_valid (w : Work) (f : CardRet → CardRet) : (w.onCardRet f).ret.valid = w.ret.valid := rfl
@[simp] theorem onCardRet_ret_slot (w : Work) (f : CardRet → CardRet) : (w.onCardRet f).ret.slot = w.ret.slot := rfl
@[simp] theorem onCardRet_ret_lastSeq (w : Work) (f : CardRet → CardRet) : (w.onCardRet f).ret.lastSeq = w.ret.lastSeq := rfl
@[simp] theorem onCardRet_ret_card (w : Work) (f : CardRet → CardRet) : (w.onCardRet f).ret.card = f w.ret.card := rfl
@[simp] theorem onCardRet_ret_journal (w : Work) (f : CardRet → CardRet) : (w.onCardRet f).ret.journal = w.ret.journal := rfl
@[simp] theorem onCardRet_ret_tally (w : Work) (f : CardRet → CardRet) : (w.onCardRet f).ret.tally = w.ret.tally := rfl
@[simp] theorem onCardRet_ret_clock (w : Work) (f : CardRet → CardRet) : (w.onCardRet f).ret.clock = w.ret.clock := rfl
@[simp] theorem onCardRet_ret_running (w : Work) (f : CardRet → CardRet) : (w.onCardRet f).ret.running = w.ret.running := rfl
@[simp] theorem onCardRet_ret_lastRunning (w : Work) (f : CardRet → CardRet) : (w.onCardRet f).ret.lastRunning = w.ret.lastRunning := rfl

/-! ## onMeter -/

@[simp] theorem onMeter_now (w : Work) (f : Meter → Meter) : (w.onMeter f).now = w.now := rfl
@[simp] theorem onMeter_free (w : Work) (f : Meter → Meter) : (w.onMeter f).free = w.free := rfl
@[simp] theorem onMeter_ret (w : Work) (f : Meter → Meter) : (w.onMeter f).ret = w.ret := rfl
@[simp] theorem onMeter_line (w : Work) (f : Meter → Meter) : (w.onMeter f).line = w.line := rfl
@[simp] theorem onMeter_sel (w : Work) (f : Meter → Meter) : (w.onMeter f).sel = w.sel := rfl
@[simp] theorem onMeter_store (w : Work) (f : Meter → Meter) : (w.onMeter f).store = w.store := rfl
@[simp] theorem onMeter_join (w : Work) (f : Meter → Meter) : (w.onMeter f).join = w.join := rfl
@[simp] theorem onMeter_meter (w : Work) (f : Meter → Meter) : (w.onMeter f).meter = f w.meter := rfl
@[simp] theorem onMeter_hire (w : Work) (f : Meter → Meter) : (w.onMeter f).hire = w.hire := rfl
@[simp] theorem onMeter_sign (w : Work) (f : Meter → Meter) : (w.onMeter f).sign = w.sign := rfl
@[simp] theorem onMeter_alerts (w : Work) (f : Meter → Meter) : (w.onMeter f).alerts = w.alerts := rfl
@[simp] theorem onMeter_ic (w : Work) (f : Meter → Meter) : (w.onMeter f).ic = w.ic := rfl
@[simp] theorem onMeter_card (w : Work) (f : Meter → Meter) : (w.onMeter f).card = w.card := rfl
@[simp] theorem onMeter_stream (w : Work) (f : Meter → Meter) : (w.onMeter f).stream = w.stream := rfl
@[simp] theorem onMeter_shift (w : Work) (f : Meter → Meter) : (w.onMeter f).shift = w.shift := rfl
@[simp] theorem onMeter_con (w : Work) (f : Meter → Meter) : (w.onMeter f).con = w.con := rfl
@[simp] theorem onMeter_keys (w : Work) (f : Meter → Meter) : (w.onMeter f).keys = w.keys := rfl
@[simp] theorem onMeter_assist (w : Work) (f : Meter → Meter) : (w.onMeter f).assist = w.assist := rfl

/-! ## onJoin -/

@[simp] theorem onJoin_now (w : Work) (f : Join → Join) : (w.onJoin f).now = w.now := rfl
@[simp] theorem onJoin_free (w : Work) (f : Join → Join) : (w.onJoin f).free = w.free := rfl
@[simp] theorem onJoin_ret (w : Work) (f : Join → Join) : (w.onJoin f).ret = w.ret := rfl
@[simp] theorem onJoin_line (w : Work) (f : Join → Join) : (w.onJoin f).line = w.line := rfl
@[simp] theorem onJoin_sel (w : Work) (f : Join → Join) : (w.onJoin f).sel = w.sel := rfl
@[simp] theorem onJoin_store (w : Work) (f : Join → Join) : (w.onJoin f).store = w.store := rfl
@[simp] theorem onJoin_join (w : Work) (f : Join → Join) : (w.onJoin f).join = f w.join := rfl
@[simp] theorem onJoin_meter (w : Work) (f : Join → Join) : (w.onJoin f).meter = w.meter := rfl
@[simp] theorem onJoin_hire (w : Work) (f : Join → Join) : (w.onJoin f).hire = w.hire := rfl
@[simp] theorem onJoin_sign (w : Work) (f : Join → Join) : (w.onJoin f).sign = w.sign := rfl
@[simp] theorem onJoin_alerts (w : Work) (f : Join → Join) : (w.onJoin f).alerts = w.alerts := rfl
@[simp] theorem onJoin_ic (w : Work) (f : Join → Join) : (w.onJoin f).ic = w.ic := rfl
@[simp] theorem onJoin_card (w : Work) (f : Join → Join) : (w.onJoin f).card = w.card := rfl
@[simp] theorem onJoin_stream (w : Work) (f : Join → Join) : (w.onJoin f).stream = w.stream := rfl
@[simp] theorem onJoin_shift (w : Work) (f : Join → Join) : (w.onJoin f).shift = w.shift := rfl
@[simp] theorem onJoin_con (w : Work) (f : Join → Join) : (w.onJoin f).con = w.con := rfl
@[simp] theorem onJoin_keys (w : Work) (f : Join → Join) : (w.onJoin f).keys = w.keys := rfl
@[simp] theorem onJoin_assist (w : Work) (f : Join → Join) : (w.onJoin f).assist = w.assist := rfl

/-! ## onShift -/

@[simp] theorem onShift_now (w : Work) (f : Shift → Shift) : (w.onShift f).now = w.now := rfl
@[simp] theorem onShift_free (w : Work) (f : Shift → Shift) : (w.onShift f).free = w.free := rfl
@[simp] theorem onShift_ret (w : Work) (f : Shift → Shift) : (w.onShift f).ret = w.ret := rfl
@[simp] theorem onShift_line (w : Work) (f : Shift → Shift) : (w.onShift f).line = w.line := rfl
@[simp] theorem onShift_sel (w : Work) (f : Shift → Shift) : (w.onShift f).sel = w.sel := rfl
@[simp] theorem onShift_store (w : Work) (f : Shift → Shift) : (w.onShift f).store = w.store := rfl
@[simp] theorem onShift_join (w : Work) (f : Shift → Shift) : (w.onShift f).join = w.join := rfl
@[simp] theorem onShift_meter (w : Work) (f : Shift → Shift) : (w.onShift f).meter = w.meter := rfl
@[simp] theorem onShift_hire (w : Work) (f : Shift → Shift) : (w.onShift f).hire = w.hire := rfl
@[simp] theorem onShift_sign (w : Work) (f : Shift → Shift) : (w.onShift f).sign = w.sign := rfl
@[simp] theorem onShift_alerts (w : Work) (f : Shift → Shift) : (w.onShift f).alerts = w.alerts := rfl
@[simp] theorem onShift_ic (w : Work) (f : Shift → Shift) : (w.onShift f).ic = w.ic := rfl
@[simp] theorem onShift_card (w : Work) (f : Shift → Shift) : (w.onShift f).card = w.card := rfl
@[simp] theorem onShift_stream (w : Work) (f : Shift → Shift) : (w.onShift f).stream = w.stream := rfl
@[simp] theorem onShift_shift (w : Work) (f : Shift → Shift) : (w.onShift f).shift = f w.shift := rfl
@[simp] theorem onShift_con (w : Work) (f : Shift → Shift) : (w.onShift f).con = w.con := rfl
@[simp] theorem onShift_keys (w : Work) (f : Shift → Shift) : (w.onShift f).keys = w.keys := rfl
@[simp] theorem onShift_assist (w : Work) (f : Shift → Shift) : (w.onShift f).assist = w.assist := rfl

/-! ## onTally -/

@[simp] theorem onTally_now (w : Work) (f : TallyRet → TallyRet) : (w.onTally f).now = w.now := rfl
@[simp] theorem onTally_free (w : Work) (f : TallyRet → TallyRet) : (w.onTally f).free = w.free := rfl
@[simp] theorem onTally_line (w : Work) (f : TallyRet → TallyRet) : (w.onTally f).line = w.line := rfl
@[simp] theorem onTally_sel (w : Work) (f : TallyRet → TallyRet) : (w.onTally f).sel = w.sel := rfl
@[simp] theorem onTally_store (w : Work) (f : TallyRet → TallyRet) : (w.onTally f).store = w.store := rfl
@[simp] theorem onTally_join (w : Work) (f : TallyRet → TallyRet) : (w.onTally f).join = w.join := rfl
@[simp] theorem onTally_meter (w : Work) (f : TallyRet → TallyRet) : (w.onTally f).meter = w.meter := rfl
@[simp] theorem onTally_hire (w : Work) (f : TallyRet → TallyRet) : (w.onTally f).hire = w.hire := rfl
@[simp] theorem onTally_sign (w : Work) (f : TallyRet → TallyRet) : (w.onTally f).sign = w.sign := rfl
@[simp] theorem onTally_alerts (w : Work) (f : TallyRet → TallyRet) : (w.onTally f).alerts = w.alerts := rfl
@[simp] theorem onTally_ic (w : Work) (f : TallyRet → TallyRet) : (w.onTally f).ic = w.ic := rfl
@[simp] theorem onTally_card (w : Work) (f : TallyRet → TallyRet) : (w.onTally f).card = w.card := rfl
@[simp] theorem onTally_stream (w : Work) (f : TallyRet → TallyRet) : (w.onTally f).stream = w.stream := rfl
@[simp] theorem onTally_shift (w : Work) (f : TallyRet → TallyRet) : (w.onTally f).shift = w.shift := rfl
@[simp] theorem onTally_con (w : Work) (f : TallyRet → TallyRet) : (w.onTally f).con = w.con := rfl
@[simp] theorem onTally_keys (w : Work) (f : TallyRet → TallyRet) : (w.onTally f).keys = w.keys := rfl
@[simp] theorem onTally_assist (w : Work) (f : TallyRet → TallyRet) : (w.onTally f).assist = w.assist := rfl
@[simp] theorem onTally_ret_valid (w : Work) (f : TallyRet → TallyRet) : (w.onTally f).ret.valid = w.ret.valid := rfl
@[simp] theorem onTally_ret_slot (w : Work) (f : TallyRet → TallyRet) : (w.onTally f).ret.slot = w.ret.slot := rfl
@[simp] theorem onTally_ret_lastSeq (w : Work) (f : TallyRet → TallyRet) : (w.onTally f).ret.lastSeq = w.ret.lastSeq := rfl
@[simp] theorem onTally_ret_card (w : Work) (f : TallyRet → TallyRet) : (w.onTally f).ret.card = w.ret.card := rfl
@[simp] theorem onTally_ret_journal (w : Work) (f : TallyRet → TallyRet) : (w.onTally f).ret.journal = w.ret.journal := rfl
@[simp] theorem onTally_ret_tally (w : Work) (f : TallyRet → TallyRet) : (w.onTally f).ret.tally = f w.ret.tally := rfl
@[simp] theorem onTally_ret_clock (w : Work) (f : TallyRet → TallyRet) : (w.onTally f).ret.clock = w.ret.clock := rfl
@[simp] theorem onTally_ret_running (w : Work) (f : TallyRet → TallyRet) : (w.onTally f).ret.running = w.ret.running := rfl
@[simp] theorem onTally_ret_lastRunning (w : Work) (f : TallyRet → TallyRet) : (w.onTally f).ret.lastRunning = w.ret.lastRunning := rfl

/-! ## withIc -/

@[simp] theorem withIc_now (w : Work) (i : Intercom) : (w.withIc i).now = w.now := rfl
@[simp] theorem withIc_free (w : Work) (i : Intercom) : (w.withIc i).free = w.free := rfl
@[simp] theorem withIc_ret (w : Work) (i : Intercom) : (w.withIc i).ret = w.ret := rfl
@[simp] theorem withIc_line (w : Work) (i : Intercom) : (w.withIc i).line = w.line := rfl
@[simp] theorem withIc_sel (w : Work) (i : Intercom) : (w.withIc i).sel = w.sel := rfl
@[simp] theorem withIc_store (w : Work) (i : Intercom) : (w.withIc i).store = w.store := rfl
@[simp] theorem withIc_join (w : Work) (i : Intercom) : (w.withIc i).join = w.join := rfl
@[simp] theorem withIc_meter (w : Work) (i : Intercom) : (w.withIc i).meter = w.meter := rfl
@[simp] theorem withIc_hire (w : Work) (i : Intercom) : (w.withIc i).hire = w.hire := rfl
@[simp] theorem withIc_sign (w : Work) (i : Intercom) : (w.withIc i).sign = w.sign := rfl
@[simp] theorem withIc_alerts (w : Work) (i : Intercom) : (w.withIc i).alerts = w.alerts := rfl
@[simp] theorem withIc_ic (w : Work) (i : Intercom) : (w.withIc i).ic = i := rfl
@[simp] theorem withIc_card (w : Work) (i : Intercom) : (w.withIc i).card = w.card := rfl
@[simp] theorem withIc_stream (w : Work) (i : Intercom) : (w.withIc i).stream = w.stream := rfl
@[simp] theorem withIc_shift (w : Work) (i : Intercom) : (w.withIc i).shift = w.shift := rfl
@[simp] theorem withIc_con (w : Work) (i : Intercom) : (w.withIc i).con = w.con := rfl
@[simp] theorem withIc_keys (w : Work) (i : Intercom) : (w.withIc i).keys = w.keys := rfl
@[simp] theorem withIc_assist (w : Work) (i : Intercom) : (w.withIc i).assist = w.assist := rfl

/-! ## reach -/

@[simp] theorem reach_now (w : Work) (t : Time) : (w.reach t).now = max w.now t := rfl
@[simp] theorem reach_free (w : Work) (t : Time) : (w.reach t).free = w.free := rfl
@[simp] theorem reach_ret (w : Work) (t : Time) : (w.reach t).ret = w.ret := rfl
@[simp] theorem reach_line (w : Work) (t : Time) : (w.reach t).line = w.line := rfl
@[simp] theorem reach_sel (w : Work) (t : Time) : (w.reach t).sel = w.sel := rfl
@[simp] theorem reach_store (w : Work) (t : Time) : (w.reach t).store = w.store := rfl
@[simp] theorem reach_join (w : Work) (t : Time) : (w.reach t).join = w.join := rfl
@[simp] theorem reach_meter (w : Work) (t : Time) : (w.reach t).meter = w.meter := rfl
@[simp] theorem reach_hire (w : Work) (t : Time) : (w.reach t).hire = w.hire := rfl
@[simp] theorem reach_sign (w : Work) (t : Time) : (w.reach t).sign = w.sign := rfl
@[simp] theorem reach_alerts (w : Work) (t : Time) : (w.reach t).alerts = w.alerts := rfl
@[simp] theorem reach_ic (w : Work) (t : Time) : (w.reach t).ic = w.ic := rfl
@[simp] theorem reach_card (w : Work) (t : Time) : (w.reach t).card = w.card := rfl
@[simp] theorem reach_stream (w : Work) (t : Time) : (w.reach t).stream = w.stream := rfl
@[simp] theorem reach_shift (w : Work) (t : Time) : (w.reach t).shift = w.shift := rfl
@[simp] theorem reach_con (w : Work) (t : Time) : (w.reach t).con = w.con := rfl
@[simp] theorem reach_keys (w : Work) (t : Time) : (w.reach t).keys = w.keys := rfl
@[simp] theorem reach_assist (w : Work) (t : Time) : (w.reach t).assist = w.assist := rfl

/-! ## The core -/

@[simp] theorem move_node (c : Core) (st : NodeState) : (c.move st).node = st := rfl
@[simp] theorem move_halt (c : Core) (st : NodeState) : (c.move st).halt = none := rfl
@[simp] theorem move_straps (c : Core) (st : NodeState) : (c.move st).straps = c.straps := rfl
@[simp] theorem move_cfg (c : Core) (st : NodeState) : (c.move st).cfg = c.cfg := rfl
@[simp] theorem move_digest (c : Core) (st : NodeState) : (c.move st).digest = c.digest := rfl
@[simp] theorem move_standby (c : Core) (st : NodeState) : (c.move st).standby = c.standby := rfl
@[simp] theorem move_pic (c : Core) (st : NodeState) : (c.move st).pic = none := rfl

/-! ## marked -/

@[simp] theorem marked_now (m : Mark) (w : Work) : (marked m w).now = w.now := rfl
@[simp] theorem marked_free (m : Mark) (w : Work) : (marked m w).free = w.free := rfl
@[simp] theorem marked_ret (m : Mark) (w : Work) : (marked m w).ret = w.ret := rfl
@[simp] theorem marked_sel (m : Mark) (w : Work) : (marked m w).sel = w.sel := rfl
@[simp] theorem marked_store (m : Mark) (w : Work) : (marked m w).store = w.store := rfl
@[simp] theorem marked_join (m : Mark) (w : Work) : (marked m w).join = w.join := rfl
@[simp] theorem marked_meter (m : Mark) (w : Work) : (marked m w).meter = w.meter := rfl
@[simp] theorem marked_hire (m : Mark) (w : Work) : (marked m w).hire = w.hire := rfl
@[simp] theorem marked_sign (m : Mark) (w : Work) : (marked m w).sign = w.sign := rfl
@[simp] theorem marked_alerts (m : Mark) (w : Work) : (marked m w).alerts = w.alerts := rfl
@[simp] theorem marked_ic (m : Mark) (w : Work) : (marked m w).ic = w.ic := rfl
@[simp] theorem marked_card (m : Mark) (w : Work) : (marked m w).card = w.card := rfl
@[simp] theorem marked_stream (m : Mark) (w : Work) : (marked m w).stream = w.stream := rfl
@[simp] theorem marked_shift (m : Mark) (w : Work) : (marked m w).shift = w.shift := rfl
@[simp] theorem marked_con (m : Mark) (w : Work) : (marked m w).con = w.con := rfl
@[simp] theorem marked_keys (m : Mark) (w : Work) : (marked m w).keys = w.keys := rfl
@[simp] theorem marked_assist (m : Mark) (w : Work) : (marked m w).assist = w.assist := rfl
@[simp] theorem marked_line_mark (m : Mark) (w : Work) : (marked m w).line.mark = some m := rfl

/-! ## The tones and the forward list -/

@[simp] theorem unblock_talk (i : Intercom) : i.unblock.talk = .quiet := rfl
@[simp] theorem unblock_talkBusy (i : Intercom) : i.unblock.talkBusy = none := rfl
@[simp] theorem unblock_tone (i : Intercom) : i.unblock.tone = i.tone := rfl
@[simp] theorem unblock_busy (i : Intercom) : i.unblock.busy = i.busy := rfl
@[simp] theorem unblock_keyHeld (i : Intercom) : i.unblock.keyHeld = i.keyHeld := rfl
@[simp] theorem unblock_call (i : Intercom) : i.unblock.call = i.call := rfl
@[simp] theorem unblock_peer (i : Intercom) : i.unblock.peer = i.peer := rfl

/-- All that the end of the tones at a moment changes. -/
theorem toneOver_eq (t : Time) (i : Intercom) : i.toneOver t =
    { i with busy := if (i.busy.any fun x => decide (x ≤ t)) then none else i.busy
             talkBusy := if (i.talkBusy.any fun x => decide (x ≤ t)) then none else i.talkBusy } := rfl

@[simp] theorem play_tone (t : CallTone) (i : Intercom) : (i.play t).tone = some t := rfl
@[simp] theorem play_busy (t : CallTone) (i : Intercom) : (i.play t).busy = i.busy := rfl
@[simp] theorem play_talkBusy (t : CallTone) (i : Intercom) : (i.play t).talkBusy = i.talkBusy := rfl
@[simp] theorem playBusy_tone (t : Time) (i : Intercom) : (i.playBusy t).tone = i.tone := rfl
@[simp] theorem playBusy_talkBusy (t : Time) (i : Intercom) : (i.playBusy t).talkBusy = i.talkBusy := rfl
@[simp] theorem quietTone_tone (i : Intercom) : i.quietTone.tone = none := rfl
@[simp] theorem quietTone_busy (i : Intercom) : i.quietTone.busy = i.busy := rfl
@[simp] theorem quietTone_talkBusy (i : Intercom) : i.quietTone.talkBusy = i.talkBusy := rfl
@[simp] theorem idle_tone (i : Intercom) : i.idle.tone = none := rfl
@[simp] theorem idle_busy (i : Intercom) : i.idle.busy = i.busy := rfl
@[simp] theorem idle_talkBusy (i : Intercom) : i.idle.talkBusy = i.talkBusy := rfl

/-- A BUSY that starts ends no earlier than its own end. -/
theorem playBusy_ends (t : Time) (i : Intercom) : ∃ e, (i.playBusy t).busy = some e ∧ t ≤ e :=
  ⟨_, rfl, Nat.le_max_left _ _⟩

/-- A BUSY under way is never shortened by another. -/
theorem playBusy_keeps (t e : Time) (i : Intercom) (h : i.busy = some e) : ∃ x, (i.playBusy t).busy = some x ∧ e ≤ x :=
  ⟨_, rfl, by simpa [h] using Nat.le_max_right t e⟩

/-! ## Saturating sums (11 R179, R189) -/

/-- Saturating additions in a row stop at the greatest value where the whole sum goes past it. -/
theorem satAdd_foldl (n : Nat) (l : List Nat) (h : l ≠ []) : l.foldl satAdd n = min counterMax (n + l.sum) := by
  induction l generalizing n with
  | nil => exact absurd rfl h
  | cons x l ih =>
    cases l with
    | nil => simp [satAdd]
    | cons y l =>
      rw [List.foldl_cons, ih _ (by simp)]
      simp only [satAdd, List.sum_cons]
      omega

/-- A counter that `plus` adds is, in a sum of tallies, the saturating sum of the counters. -/
theorem foldl_plus_counter (f : TallyVals → Nat) (hf : ∀ a b, f (a.plus b) = satAdd (f a) (f b)) (own : TallyVals)
    (l : List TallyVals) : f (l.foldl TallyVals.plus own) = (l.map f).foldl satAdd (f own) := by
  induction l generalizing own with
  | nil => rfl
  | cons t l ih => simp [ih, hf]

@[simp] theorem plus_band (a b : TallyVals) (k : Fin 8) : (a.plus b).bands[k] = satAdd a.bands[k] b.bands[k] := by
  simp [TallyVals.plus]

/-! ## The re-ask wait -/

@[simp] theorem reaskWait_join (w : Work) :
    (reaskWait w).join = { w.join with limit := none, reask := some (w.now + sec 1) } := rfl
@[simp] theorem reaskWait_now (w : Work) : (reaskWait w).now = w.now := rfl
@[simp] theorem reaskWait_sel (w : Work) : (reaskWait w).sel = w.sel := rfl
@[simp] theorem reask_join (w : Work) : (reask w).join =
    { w.join with parts := [], caught := [], answerer := none, limit := none, reask := some (w.now + sec 1) } := rfl
@[simp] theorem reask_now (w : Work) : (reask w).now = w.now := rfl
@[simp] theorem reask_sel (w : Work) : (reask w).sel = w.sel := rfl

/-- Telling the status producer leaves the retained area as it is. -/
theorem statusTold_ret (c : Core) (w : Work) : (statusTold c w).ret = w.ret := by
  unfold statusTold offerPic
  repeat' split
  all_goals rfl

/-- The entry is off the list, and every other is on it that was. -/
theorem dropForward_mem (c : Core) (e x : FwdEntry) (w : Work) :
    x ∈ (dropForward c e w).ret.card.forward ↔ x ∈ w.ret.card.forward ∧ x ≠ e := by
  simp [dropForward, statusTold_ret]

end Sys2Proof.Machine
end

