-- ==== Sys2Proof/Laws/Still.lean ====
section
/-! SUPPORT. What the standing work that ends a step (`settle`) never changes. -/

namespace Sys2Proof.Machine

/-- What no standing work changes: the work with the parts that standing work may change set to their start values. -/
def Work.still (w : Work) : Work :=
  { w with
    ret := { w.ret with
      slot := Slot.cold
      card := { w.ret.card with hold := [] }
      journal := Journal.cold
      tally := { w.ret.tally with tally := TallyVals.zero none, hold := [] } }
    line := { w.line with inHand := none }
    sel := Selector.empty
    meter := { w.meter with accumulator := 0, timeWaiting := none }
    hire := Hire.init
    alerts := Alerts.init
    ic := Intercom.init
    card := { w.card with fwd := .none, laneAsk := .none, authWaiting := none }
    con := { w.con with queue := [], sending := none } }

/-! ## The console's queue -/

@[simp] theorem pump_request (k : Console) : k.pump.request = k.request := by
  unfold Console.pump
  split <;> rfl

@[simp] theorem pump_rx (k : Console) : k.pump.rx = k.rx := by
  unfold Console.pump
  split <;> rfl

@[simp] theorem push_request (k : Console) (m : ConsoleMsg) : (k.push m).request = k.request := by
  simp [Console.push]

@[simp] theorem push_rx (k : Console) (m : ConsoleMsg) : (k.push m).rx = k.rx := by
  simp [Console.push]

/-! ## One lemma for each operation -/

theorem still_report (c : Core) (r : Report) (w : Work) : (report c r w).still = w.still := by
  unfold report Work.still
  split
  · simp
  · rfl

theorem still_place (c : Core) (k : SlotId) (f : Frame) (u : Purpose) (w : Work) : (place c k f u w).still = w.still := by
  unfold place LineIf.dropHand
  repeat' split
  all_goals rfl

theorem still_offerPic (c : Core) (p : Producer) (u : Purpose) (f : Frame) (w : Work) :
    (offerPic c p u f w).still = w.still := by
  unfold offerPic LineIf.dropHand
  simp only []
  repeat' split
  all_goals rfl

theorem still_reportAlert (c : Core) (a : AlertRec) (deferred : Bool) (carried : Option Nat) (w : Work) : (reportAlert c a deferred carried w).still = w.still := by
  unfold reportAlert
  try simp only []
  repeat' split
  all_goals first | rfl | exact still_report .. | (simp only [still_report] <;> rfl)

theorem still_consolePart (c : Core) (a : AlertRec) (cls : AlertClass) (carried : Option Nat) (w : Work) : (consolePart c a cls carried w).still = w.still := by
  unfold consolePart
  try simp only []
  repeat' split
  all_goals first | rfl | exact still_reportAlert .. | (simp only [still_reportAlert] <;> rfl)

theorem still_displayPart (a : AlertRec) (cls : AlertClass) (w : Work) : (displayPart a cls w).still = w.still := by
  unfold displayPart
  try simp only []
  repeat' split
  all_goals rfl

theorem still_framePart (a : AlertRec) (cls : AlertClass) (d : PartDest) (w : Work) : (framePart a cls d w).still = w.still := by
  unfold framePart
  try simp only []
  repeat' split
  all_goals rfl

theorem still_raiseParts (c : Core) (frames : Bool) (a : AlertRec) (w : Work) : (raiseParts c frames a w).still = w.still := by
  unfold raiseParts
  try simp only []
  repeat' split
  all_goals first | rfl | exact still_consolePart .. | exact still_displayPart .. | exact still_framePart .. | (simp only [still_consolePart, still_displayPart, still_framePart] <;> rfl)

theorem still_alertPoll (c : Core) (w : Work) : (alertPoll c w).still = w.still := by
  unfold alertPoll
  try simp only []
  repeat' split
  all_goals first | rfl | exact still_place .. | (simp only [still_place] <;> rfl)

theorem still_raise (c : Core) (a : AlertRec) (w : Work) : (raise c a w).still = w.still := by
  unfold raise
  try simp only []
  repeat' split
  all_goals first | rfl | exact still_raiseParts .. | exact still_alertPoll .. | (simp only [still_raiseParts, still_alertPoll] <;> rfl)

theorem still_statusTold (c : Core) (w : Work) : (statusTold c w).still = w.still := by
  unfold statusTold
  try simp only []
  repeat' split
  all_goals first | rfl | exact still_offerPic .. | (simp only [still_offerPic] <;> rfl)

theorem still_maskUpdate (c : Core) (w : Work) : (maskUpdate c w).still = w.still := by
  unfold maskUpdate
  try simp only []
  repeat' split
  all_goals rfl

theorem still_fareWait (c : Core) (r : FareRep) (w : Work) : (fareWait c r w).still = w.still := by
  unfold fareWait
  try simp only []
  repeat' split
  all_goals rfl

theorem still_farePoll (c : Core) (w : Work) : (farePoll c w).still = w.still := by
  unfold farePoll
  try simp only []
  repeat' split
  all_goals first | rfl | exact still_fareWait .. | exact still_report .. | (simp only [still_report] <;> rfl)

theorem still_fareMark (c : Core) (w : Work) : (fareMark c w).still = w.still := by
  unfold fareMark
  try simp only []
  repeat' split
  all_goals first | rfl | exact still_farePoll .. | (simp only [still_farePoll] <;> rfl)

theorem still_slotFreed (c : Core) (w : Work) : (slotFreed c w).still = w.still := by
  unfold slotFreed
  try simp only []
  repeat' split
  all_goals first | rfl | exact still_report .. | exact still_raise .. | exact still_maskUpdate .. | exact still_farePoll .. | (simp only [still_report, still_raise, still_maskUpdate, still_farePoll] <;> rfl)

theorem still_giveNext (c : Core) (w : Work) : (giveNext c w).still = w.still := by
  unfold giveNext
  try simp only []
  repeat' split
  all_goals first | rfl | exact still_offerPic .. | exact still_slotFreed .. | (simp only [still_offerPic, still_slotFreed] <;> rfl)

theorem still_stateSettled (c : Core) (w : Work) : (stateSettled c w).still = w.still := by
  unfold stateSettled
  try simp only []
  repeat' split
  all_goals rfl

theorem still_hiringPoll (c : Core) (w : Work) : (hiringPoll c w).still = w.still := by
  unfold hiringPoll
  try simp only []
  repeat' split
  all_goals first | rfl | exact still_stateSettled .. | exact still_offerPic .. | exact still_giveNext .. | (simp only [still_offerPic, still_giveNext] <;> rfl)

theorem still_tallyAdd (d : TallyVals) (w : Work) : (tallyAdd d w).still = w.still := by
  unfold tallyAdd
  try simp only []
  repeat' split
  all_goals rfl

theorem still_accepted (p : RecProducer) (r : Record) (w : Work) : (accepted p r w).still = w.still := by
  unfold accepted
  try simp only []
  repeat' split
  all_goals first | rfl | exact still_tallyAdd .. | (simp only [still_tallyAdd] <;> rfl)

theorem still_acceptFrom (c : Core) (p : RecProducer) (w : Work) : ∀ v, (acceptFrom c p w) = some v → v.still = w.still := by
  intro v h
  unfold acceptFrom at h
  try simp only [] at h
  repeat' split at h
  all_goals first
    | (cases h; done)
    | (cases h; rfl)
    | (cases h; exact still_accepted ..)
    | (cases h; simp only [still_accepted] <;> rfl)

theorem still_halfReady (c : Core) (h : Half) (w : Work) : (halfReady c h w).still = w.still := by
  unfold halfReady
  try simp only []
  repeat' split
  all_goals first | rfl | exact still_raise .. | exact still_statusTold .. | (simp only [still_raise, still_statusTold] <;> rfl)

theorem still_moveOne (c : Core) (w : Work) : ∀ v, (moveOne c w) = some v → v.still = w.still := by
  intro v h
  unfold moveOne at h
  try simp only [] at h
  repeat' split at h
  all_goals first
    | (cases h; done)
    | (cases h; rfl)
    | (cases h; exact still_halfReady ..)
    | (cases h; simp only [still_halfReady] <;> rfl)

theorem still_journalStep (c : Core) (w : Work) : ∀ v, (journalStep c w) = some v → v.still = w.still := by
  intro v h
  unfold journalStep at h
  split at h
  · next h' =>
    cases h
    exact still_moveOne c w _ h'
  · obtain ⟨p, _, hp⟩ := List.exists_of_findSome?_eq_some h
    exact still_acceptFrom c p w v hp

theorem still_journalRun (c : Core) (n : Nat) (w : Work) : (journalRun c n w).still = w.still := by
  induction n generalizing w with
  | zero => rfl
  | succ n ih =>
    unfold journalRun
    split
    · next h => rw [ih, still_journalStep c w _ h]
    · rfl

theorem still_journalPump (c : Core) (w : Work) : (journalPump c w).still = w.still := by
  unfold journalPump
  try simp only []
  repeat' split
  all_goals first | rfl | exact still_journalRun .. | (simp only [still_journalRun] <;> rfl)

theorem still_cardPoll (c : Core) (w : Work) : (cardPoll c w).still = w.still := by
  unfold cardPoll
  try simp only []
  repeat' split
  all_goals first | rfl | exact still_offerPic .. | (simp only [still_offerPic] <;> rfl)

theorem still_authPoll (c : Core) (w : Work) : (authPoll c w).still = w.still := by
  unfold authPoll
  try simp only []
  repeat' split
  all_goals first | rfl | exact still_place .. | (simp only [still_place] <;> rfl)

theorem still_floorPoll (c : Core) (w : Work) : (floorPoll c w).still = w.still := by
  unfold floorPoll
  try simp only []
  repeat' split
  all_goals first | rfl | exact still_offerPic .. | (simp only [still_offerPic] <;> rfl)

theorem still_callTold (c0 : Core) (i0 : Intercom) (c : Core) (w : Work) : (callTold c0 i0 c w).still = w.still := by
  unfold callTold
  try simp only []
  repeat' split
  all_goals first | rfl | exact still_report .. | (simp only [still_report] <;> rfl)

theorem still_floorStanding (c : Core) (w : Work) : (floorStanding c w).still = w.still := by
  unfold floorStanding
  try simp only []
  repeat' split
  all_goals first | rfl | exact still_floorPoll .. | exact still_callTold .. | (simp only [still_floorPoll, still_callTold] <;> rfl)

theorem still_joinPoll (c : Core) (w : Work) : (joinPoll c w).still = w.still := by
  unfold joinPoll
  try simp only []
  repeat' split
  all_goals first | rfl | exact still_offerPic .. | (simp only [still_offerPic] <;> rfl)

theorem still_announcePoll (c : Core) (w : Work) : (announcePoll c w).still = w.still := by
  unfold announcePoll
  try simp only []
  repeat' split
  all_goals first | rfl | exact still_offerPic .. | exact still_statusTold .. | (simp only [still_offerPic, still_statusTold] <;> rfl)

theorem still_silencePoll (c : Core) (w : Work) : (silencePoll c w).still = w.still := by
  unfold silencePoll
  try simp only []
  repeat' split
  all_goals first | rfl | exact still_offerPic .. | (simp only [still_offerPic] <;> rfl)

theorem still_assistPoll (c : Core) (w : Work) : (assistPoll c w).still = w.still := by
  unfold assistPoll
  try simp only []
  repeat' split
  all_goals first | rfl | exact still_offerPic .. | (simp only [still_offerPic] <;> rfl)

theorem still_shiftPoll (c : Core) (w : Work) : (shiftPoll c w).still = w.still := by
  unfold shiftPoll
  try simp only []
  repeat' split
  all_goals first | rfl | exact still_offerPic .. | (simp only [still_offerPic] <;> rfl)

theorem still_callPoll (c : Core) (w : Work) : (callPoll c w).still = w.still := by
  unfold callPoll
  try simp only []
  repeat' split
  all_goals first | rfl | exact still_place .. | (simp only [still_place] <;> rfl)

theorem still_meterFeed (c : Core) (w : Work) : (meterFeed c w).still = w.still := by
  unfold meterFeed
  try simp only []
  repeat' split
  all_goals first | rfl | exact still_place .. | (simp only [still_place] <;> rfl)

theorem still_feedCommand (c : Core) (w : Work) : (feedCommand c w).still = w.still := by
  unfold feedCommand
  try simp only []
  repeat' split
  all_goals rfl

theorem still_feedBulk (c : Core) (w : Work) : (feedBulk c w).still = w.still := by
  unfold feedBulk
  try simp only []
  repeat' split
  all_goals rfl

/-- Standing work changes only what `Work.still` leaves out. -/
theorem still_settle (c : Core) (w : Work) : (settle c w).still = w.still := by
  unfold settle
  split
  · simp only [still_feedBulk, still_feedCommand, still_meterFeed, still_alertPoll, still_callPoll, still_shiftPoll,
      still_assistPoll, still_silencePoll, still_announcePoll, still_joinPoll, still_floorStanding, still_authPoll,
      still_cardPoll, still_hiringPoll, still_journalPump]
  · rfl

end Sys2Proof.Machine
end

