-- ==== Sys2Proof/Laws/Settle.lean ====
section
/-! SUPPORT. What the standing work that ends a step leaves as it is: every piece of `Piece.same`. -/

namespace Sys2Proof.Machine

/-- What standing work at rest leaves as it is. -/
def Work.calm (w : Work) : Work :=
  { w with
    line := { w.line with inHand := none }
    sel := Selector.empty
    meter := { w.meter with accumulator := 0, timeWaiting := none }
    alerts := { w.alerts with queue := [], lost := 0 }
    ic := { w.ic with handed := false, talk := .quiet, ask := .none }
    card := { w.card with fwd := .none, laneAsk := .none, authWaiting := none }
    con := { w.con with queue := [], sending := none } }

/-- The slot and what the hiring controller keeps beside it. -/
def Work.fare (w : Work) : Slot × Hire := (w.ret.slot, w.hire)

/-- The intercom, but for the mark of the frame in the CALL slot. -/
def Work.talk' (w : Work) : Intercom := { w.ic with handed := false }

/-- The results the console is still to be sent. -/
def Work.told (w : Work) : List (Option Reason) := w.con.results

/-! ## The console's results -/

@[simp] theorem pump_results (k : Console) : k.pump.results = k.results := by
  unfold Console.pump
  split
  · next h1 h2 => simp [Console.results, h1, h2]
  · rfl

theorem dropReport_results (l : List ConsoleMsg) :
    (dropReport l).filterMap ConsoleMsg.result? = l.filterMap ConsoleMsg.result? := by
  induction l with
  | nil => rfl
  | cons m l ih =>
    unfold dropReport
    cases m with
    | result r => simp [ConsoleMsg.isReport, ConsoleMsg.result?, ih]
    | report r => simp [ConsoleMsg.isReport, ConsoleMsg.result?, List.filterMap_cons]

@[simp] theorem push_report_results (k : Console) (r : Report) : (k.push (.report r)).results = k.results := by
  unfold Console.push
  simp only [pump_results]
  unfold Console.results
  split <;> simp [List.filterMap_append, dropReport_results, ConsoleMsg.result?]

@[simp] theorem push_result_results (k : Console) (r : Option Reason) :
    (k.push (.result r)).results = k.results ++ [r] := by
  unfold Console.push
  simp only [pump_results]
  unfold Console.results
  split <;> simp [List.filterMap_append, dropReport_results, ConsoleMsg.result?]


/-! ## At rest -/

theorem calm_report (c : Core) (r : Report) (w : Work) : (report c r w).calm = w.calm := by
  unfold report Work.calm
  split
  · simp
  · rfl

theorem calm_place (c : Core) (k : SlotId) (f : Frame) (u : Purpose) (w : Work) : (place c k f u w).calm = w.calm := by
  unfold place LineIf.dropHand
  repeat' split
  all_goals rfl

theorem calm_offerPic (c : Core) (p : Producer) (u : Purpose) (f : Frame) (w : Work) :
    (offerPic c p u f w).calm = w.calm := by
  unfold offerPic LineIf.dropHand
  simp only []
  repeat' split
  all_goals rfl

theorem calm_statusTold (c : Core) (w : Work) : (statusTold c w).calm = w.calm := by
  unfold statusTold
  try simp only []
  repeat' split
  all_goals first | rfl | exact calm_offerPic .. | (simp only [calm_offerPic] <;> rfl)

theorem calm_cardPoll (c : Core) (w : Work) : (cardPoll c w).calm = w.calm := by
  unfold cardPoll
  try simp only []
  repeat' split
  all_goals first | rfl | exact calm_offerPic .. | (simp only [calm_offerPic] <;> rfl)

theorem calm_authPoll (c : Core) (w : Work) : (authPoll c w).calm = w.calm := by
  unfold authPoll
  try simp only []
  repeat' split
  all_goals first | rfl | exact calm_place .. | (simp only [calm_place] <;> rfl)

theorem calm_floorPoll (c : Core) (w : Work) : (floorPoll c w).calm = w.calm := by
  unfold floorPoll
  try simp only []
  repeat' split
  all_goals first | rfl | exact calm_offerPic .. | (simp only [calm_offerPic] <;> rfl)

theorem calm_callTold (c0 : Core) (i0 : Intercom) (c : Core) (w : Work) : (callTold c0 i0 c w).calm = w.calm := by
  unfold callTold
  try simp only []
  repeat' split
  all_goals first | rfl | exact calm_report .. | (simp only [calm_report] <;> rfl)

theorem calm_floorStanding (c : Core) (w : Work) : (floorStanding c w).calm = w.calm := by
  unfold floorStanding
  try simp only []
  repeat' split
  all_goals first | rfl | exact calm_floorPoll .. | exact calm_callTold .. | (simp only [calm_floorPoll, calm_callTold] <;> rfl)

theorem calm_joinPoll (c : Core) (w : Work) : (joinPoll c w).calm = w.calm := by
  unfold joinPoll
  try simp only []
  repeat' split
  all_goals first | rfl | exact calm_offerPic .. | (simp only [calm_offerPic] <;> rfl)

theorem calm_announcePoll (c : Core) (w : Work) : (announcePoll c w).calm = w.calm := by
  unfold announcePoll
  try simp only []
  repeat' split
  all_goals first | rfl | exact calm_offerPic .. | exact calm_statusTold .. | (simp only [calm_offerPic, calm_statusTold] <;> rfl)

theorem calm_silencePoll (c : Core) (w : Work) : (silencePoll c w).calm = w.calm := by
  unfold silencePoll
  try simp only []
  repeat' split
  all_goals first | rfl | exact calm_offerPic .. | (simp only [calm_offerPic] <;> rfl)

theorem calm_assistPoll (c : Core) (w : Work) : (assistPoll c w).calm = w.calm := by
  unfold assistPoll
  try simp only []
  repeat' split
  all_goals first | rfl | exact calm_offerPic .. | (simp only [calm_offerPic] <;> rfl)

theorem calm_shiftPoll (c : Core) (w : Work) : (shiftPoll c w).calm = w.calm := by
  unfold shiftPoll
  try simp only []
  repeat' split
  all_goals first | rfl | exact calm_offerPic .. | (simp only [calm_offerPic] <;> rfl)

theorem calm_callPoll (c : Core) (w : Work) : (callPoll c w).calm = w.calm := by
  unfold callPoll
  try simp only []
  repeat' split
  all_goals first | rfl | exact calm_place .. | (simp only [calm_place] <;> rfl)

theorem calm_alertPoll (c : Core) (w : Work) : (alertPoll c w).calm = w.calm := by
  unfold alertPoll
  try simp only []
  repeat' split
  all_goals first | rfl | exact calm_place .. | (simp only [calm_place] <;> rfl)

theorem calm_meterFeed (c : Core) (w : Work) : (meterFeed c w).calm = w.calm := by
  unfold meterFeed
  try simp only []
  repeat' split
  all_goals first | rfl | exact calm_place .. | (simp only [calm_place] <;> rfl)

theorem calm_feedCommand (c : Core) (w : Work) : (feedCommand c w).calm = w.calm := by
  unfold feedCommand
  try simp only []
  repeat' split
  all_goals rfl

theorem calm_feedBulk (c : Core) (w : Work) : (feedBulk c w).calm = w.calm := by
  unfold feedBulk
  try simp only []
  repeat' split
  all_goals rfl

/-! ## The slot -/

theorem fare_report (c : Core) (r : Report) (w : Work) : (report c r w).fare = w.fare := by
  unfold report
  split <;> rfl

theorem fare_place (c : Core) (k : SlotId) (f : Frame) (u : Purpose) (w : Work) : (place c k f u w).fare = w.fare := by
  unfold place LineIf.dropHand
  repeat' split
  all_goals rfl

theorem fare_offerPic (c : Core) (p : Producer) (u : Purpose) (f : Frame) (w : Work) :
    (offerPic c p u f w).fare = w.fare := by
  unfold offerPic LineIf.dropHand
  simp only []
  repeat' split
  all_goals rfl

theorem fare_reportAlert (c : Core) (a : AlertRec) (deferred : Bool) (carried : Option Nat) (w : Work) : (reportAlert c a deferred carried w).fare = w.fare := by
  unfold reportAlert
  try simp only []
  repeat' split
  all_goals first | rfl | exact fare_report .. | (simp only [fare_report] <;> rfl)

theorem fare_consolePart (c : Core) (a : AlertRec) (cls : AlertClass) (carried : Option Nat) (w : Work) : (consolePart c a cls carried w).fare = w.fare := by
  unfold consolePart
  try simp only []
  repeat' split
  all_goals first | rfl | exact fare_reportAlert .. | (simp only [fare_reportAlert] <;> rfl)

theorem fare_displayPart (a : AlertRec) (cls : AlertClass) (w : Work) : (displayPart a cls w).fare = w.fare := by
  unfold displayPart
  try simp only []
  repeat' split
  all_goals rfl

theorem fare_framePart (a : AlertRec) (cls : AlertClass) (d : PartDest) (w : Work) : (framePart a cls d w).fare = w.fare := by
  unfold framePart
  try simp only []
  repeat' split
  all_goals rfl

theorem fare_raiseParts (c : Core) (frames : Bool) (a : AlertRec) (w : Work) : (raiseParts c frames a w).fare = w.fare := by
  unfold raiseParts
  try simp only []
  repeat' split
  all_goals first | rfl | exact fare_consolePart .. | exact fare_displayPart .. | exact fare_framePart .. | (simp only [fare_consolePart, fare_displayPart, fare_framePart] <;> rfl)

theorem fare_statusTold (c : Core) (w : Work) : (statusTold c w).fare = w.fare := by
  unfold statusTold
  try simp only []
  repeat' split
  all_goals first | rfl | exact fare_offerPic .. | (simp only [fare_offerPic] <;> rfl)

theorem fare_cardPoll (c : Core) (w : Work) : (cardPoll c w).fare = w.fare := by
  unfold cardPoll
  try simp only []
  repeat' split
  all_goals first | rfl | exact fare_offerPic .. | (simp only [fare_offerPic] <;> rfl)

theorem fare_authPoll (c : Core) (w : Work) : (authPoll c w).fare = w.fare := by
  unfold authPoll
  try simp only []
  repeat' split
  all_goals first | rfl | exact fare_place .. | (simp only [fare_place] <;> rfl)

theorem fare_floorPoll (c : Core) (w : Work) : (floorPoll c w).fare = w.fare := by
  unfold floorPoll
  try simp only []
  repeat' split
  all_goals first | rfl | exact fare_offerPic .. | (simp only [fare_offerPic] <;> rfl)

theorem fare_callTold (c0 : Core) (i0 : Intercom) (c : Core) (w : Work) : (callTold c0 i0 c w).fare = w.fare := by
  unfold callTold
  try simp only []
  repeat' split
  all_goals first | rfl | exact fare_report .. | (simp only [fare_report] <;> rfl)

theorem fare_floorStanding (c : Core) (w : Work) : (floorStanding c w).fare = w.fare := by
  unfold floorStanding
  try simp only []
  repeat' split
  all_goals first | rfl | exact fare_floorPoll .. | exact fare_callTold .. | (simp only [fare_floorPoll, fare_callTold] <;> rfl)

theorem fare_joinPoll (c : Core) (w : Work) : (joinPoll c w).fare = w.fare := by
  unfold joinPoll
  try simp only []
  repeat' split
  all_goals first | rfl | exact fare_offerPic .. | (simp only [fare_offerPic] <;> rfl)

theorem fare_announcePoll (c : Core) (w : Work) : (announcePoll c w).fare = w.fare := by
  unfold announcePoll
  try simp only []
  repeat' split
  all_goals first | rfl | exact fare_offerPic .. | exact fare_statusTold .. | (simp only [fare_offerPic, fare_statusTold] <;> rfl)

theorem fare_silencePoll (c : Core) (w : Work) : (silencePoll c w).fare = w.fare := by
  unfold silencePoll
  try simp only []
  repeat' split
  all_goals first | rfl | exact fare_offerPic .. | (simp only [fare_offerPic] <;> rfl)

theorem fare_assistPoll (c : Core) (w : Work) : (assistPoll c w).fare = w.fare := by
  unfold assistPoll
  try simp only []
  repeat' split
  all_goals first | rfl | exact fare_offerPic .. | (simp only [fare_offerPic] <;> rfl)

theorem fare_shiftPoll (c : Core) (w : Work) : (shiftPoll c w).fare = w.fare := by
  unfold shiftPoll
  try simp only []
  repeat' split
  all_goals first | rfl | exact fare_offerPic .. | (simp only [fare_offerPic] <;> rfl)

theorem fare_callPoll (c : Core) (w : Work) : (callPoll c w).fare = w.fare := by
  unfold callPoll
  try simp only []
  repeat' split
  all_goals first | rfl | exact fare_place .. | (simp only [fare_place] <;> rfl)

theorem fare_alertPoll (c : Core) (w : Work) : (alertPoll c w).fare = w.fare := by
  unfold alertPoll
  try simp only []
  repeat' split
  all_goals first | rfl | exact fare_place .. | (simp only [fare_place] <;> rfl)

theorem fare_meterFeed (c : Core) (w : Work) : (meterFeed c w).fare = w.fare := by
  unfold meterFeed
  try simp only []
  repeat' split
  all_goals first | rfl | exact fare_place .. | (simp only [fare_place] <;> rfl)

theorem fare_feedCommand (c : Core) (w : Work) : (feedCommand c w).fare = w.fare := by
  unfold feedCommand
  try simp only []
  repeat' split
  all_goals rfl

theorem fare_feedBulk (c : Core) (w : Work) : (feedBulk c w).fare = w.fare := by
  unfold feedBulk
  try simp only []
  repeat' split
  all_goals rfl

theorem fare_raise (c : Core) (a : AlertRec) (w : Work) : (raise c a w).fare = w.fare := by
  unfold raise
  try simp only []
  repeat' split
  all_goals first | rfl | exact fare_raiseParts .. | exact fare_alertPoll .. | (simp only [fare_raiseParts, fare_alertPoll] <;> rfl)

theorem fare_maskUpdate (c : Core) (w : Work) : (maskUpdate c w).fare = w.fare := by
  unfold maskUpdate
  try simp only []
  repeat' split
  all_goals rfl

theorem fare_tallyAdd (d : TallyVals) (w : Work) : (tallyAdd d w).fare = w.fare := by
  unfold tallyAdd
  try simp only []
  repeat' split
  all_goals rfl

theorem fare_halfReady (c : Core) (h : Half) (w : Work) : (halfReady c h w).fare = w.fare := by
  unfold halfReady
  try simp only []
  repeat' split
  all_goals first | rfl | exact fare_statusTold .. | exact fare_raise .. | (simp only [fare_statusTold, fare_raise] <;> rfl)

theorem fare_moveOne (c : Core) (w : Work) : ∀ v, (moveOne c w) = some v → v.fare = w.fare := by
  intro v h
  unfold moveOne at h
  try simp only [] at h
  repeat' split at h
  all_goals first
    | (cases h; done)
    | (cases h; rfl)
    | (cases h; exact fare_halfReady ..)
    | (cases h; simp only [fare_halfReady] <;> rfl)

/-! ## The intercom -/

theorem talk'_report (c : Core) (r : Report) (w : Work) : (report c r w).talk' = w.talk' := by
  unfold report
  split <;> rfl

theorem talk'_place (c : Core) (k : SlotId) (f : Frame) (u : Purpose) (w : Work) : (place c k f u w).talk' = w.talk' := by
  unfold place LineIf.dropHand
  repeat' split
  all_goals rfl

theorem talk'_offerPic (c : Core) (p : Producer) (u : Purpose) (f : Frame) (w : Work) :
    (offerPic c p u f w).talk' = w.talk' := by
  unfold offerPic LineIf.dropHand
  simp only []
  repeat' split
  all_goals rfl

theorem talk'_reportAlert (c : Core) (a : AlertRec) (deferred : Bool) (carried : Option Nat) (w : Work) : (reportAlert c a deferred carried w).talk' = w.talk' := by
  unfold reportAlert
  try simp only []
  repeat' split
  all_goals first | rfl | exact talk'_report .. | (simp only [talk'_report] <;> rfl)

theorem talk'_consolePart (c : Core) (a : AlertRec) (cls : AlertClass) (carried : Option Nat) (w : Work) : (consolePart c a cls carried w).talk' = w.talk' := by
  unfold consolePart
  try simp only []
  repeat' split
  all_goals first | rfl | exact talk'_reportAlert .. | (simp only [talk'_reportAlert] <;> rfl)

theorem talk'_displayPart (a : AlertRec) (cls : AlertClass) (w : Work) : (displayPart a cls w).talk' = w.talk' := by
  unfold displayPart
  try simp only []
  repeat' split
  all_goals rfl

theorem talk'_framePart (a : AlertRec) (cls : AlertClass) (d : PartDest) (w : Work) : (framePart a cls d w).talk' = w.talk' := by
  unfold framePart
  try simp only []
  repeat' split
  all_goals rfl

theorem talk'_raiseParts (c : Core) (frames : Bool) (a : AlertRec) (w : Work) : (raiseParts c frames a w).talk' = w.talk' := by
  unfold raiseParts
  try simp only []
  repeat' split
  all_goals first | rfl | exact talk'_consolePart .. | exact talk'_displayPart .. | exact talk'_framePart .. | (simp only [talk'_consolePart, talk'_displayPart, talk'_framePart] <;> rfl)

theorem talk'_statusTold (c : Core) (w : Work) : (statusTold c w).talk' = w.talk' := by
  unfold statusTold
  try simp only []
  repeat' split
  all_goals first | rfl | exact talk'_offerPic .. | (simp only [talk'_offerPic] <;> rfl)

theorem talk'_cardPoll (c : Core) (w : Work) : (cardPoll c w).talk' = w.talk' := by
  unfold cardPoll
  try simp only []
  repeat' split
  all_goals first | rfl | exact talk'_offerPic .. | (simp only [talk'_offerPic] <;> rfl)

theorem talk'_authPoll (c : Core) (w : Work) : (authPoll c w).talk' = w.talk' := by
  unfold authPoll
  try simp only []
  repeat' split
  all_goals first | rfl | exact talk'_place .. | (simp only [talk'_place] <;> rfl)

theorem talk'_callTold (c0 : Core) (i0 : Intercom) (c : Core) (w : Work) : (callTold c0 i0 c w).talk' = w.talk' := by
  unfold callTold
  try simp only []
  repeat' split
  all_goals first | rfl | exact talk'_report .. | (simp only [talk'_report] <;> rfl)

theorem talk'_joinPoll (c : Core) (w : Work) : (joinPoll c w).talk' = w.talk' := by
  unfold joinPoll
  try simp only []
  repeat' split
  all_goals first | rfl | exact talk'_offerPic .. | (simp only [talk'_offerPic] <;> rfl)

theorem talk'_announcePoll (c : Core) (w : Work) : (announcePoll c w).talk' = w.talk' := by
  unfold announcePoll
  try simp only []
  repeat' split
  all_goals first | rfl | exact talk'_offerPic .. | exact talk'_statusTold .. | (simp only [talk'_offerPic, talk'_statusTold] <;> rfl)

theorem talk'_silencePoll (c : Core) (w : Work) : (silencePoll c w).talk' = w.talk' := by
  unfold silencePoll
  try simp only []
  repeat' split
  all_goals first | rfl | exact talk'_offerPic .. | (simp only [talk'_offerPic] <;> rfl)

theorem talk'_assistPoll (c : Core) (w : Work) : (assistPoll c w).talk' = w.talk' := by
  unfold assistPoll
  try simp only []
  repeat' split
  all_goals first | rfl | exact talk'_offerPic .. | (simp only [talk'_offerPic] <;> rfl)

theorem talk'_shiftPoll (c : Core) (w : Work) : (shiftPoll c w).talk' = w.talk' := by
  unfold shiftPoll
  try simp only []
  repeat' split
  all_goals first | rfl | exact talk'_offerPic .. | (simp only [talk'_offerPic] <;> rfl)

theorem talk'_callPoll (c : Core) (w : Work) : (callPoll c w).talk' = w.talk' := by
  unfold callPoll
  try simp only []
  repeat' split
  all_goals first | rfl | exact talk'_place .. | (simp only [talk'_place] <;> rfl)

theorem talk'_alertPoll (c : Core) (w : Work) : (alertPoll c w).talk' = w.talk' := by
  unfold alertPoll
  try simp only []
  repeat' split
  all_goals first | rfl | exact talk'_place .. | (simp only [talk'_place] <;> rfl)

theorem talk'_meterFeed (c : Core) (w : Work) : (meterFeed c w).talk' = w.talk' := by
  unfold meterFeed
  try simp only []
  repeat' split
  all_goals first | rfl | exact talk'_place .. | (simp only [talk'_place] <;> rfl)

theorem talk'_feedCommand (c : Core) (w : Work) : (feedCommand c w).talk' = w.talk' := by
  unfold feedCommand
  try simp only []
  repeat' split
  all_goals rfl

theorem talk'_feedBulk (c : Core) (w : Work) : (feedBulk c w).talk' = w.talk' := by
  unfold feedBulk
  try simp only []
  repeat' split
  all_goals rfl

theorem talk'_raise (c : Core) (a : AlertRec) (w : Work) : (raise c a w).talk' = w.talk' := by
  unfold raise
  try simp only []
  repeat' split
  all_goals first | rfl | exact talk'_raiseParts .. | exact talk'_alertPoll .. | (simp only [talk'_raiseParts, talk'_alertPoll] <;> rfl)

theorem talk'_fareWait (c : Core) (r : FareRep) (w : Work) : (fareWait c r w).talk' = w.talk' := by
  unfold fareWait
  try simp only []
  repeat' split
  all_goals rfl

theorem talk'_farePoll (c : Core) (w : Work) : (farePoll c w).talk' = w.talk' := by
  unfold farePoll
  try simp only []
  repeat' split
  all_goals first | rfl | exact talk'_fareWait .. | exact talk'_report .. | (simp only [talk'_report] <;> rfl)

theorem talk'_fareMark (c : Core) (w : Work) : (fareMark c w).talk' = w.talk' := by
  unfold fareMark
  try simp only []
  repeat' split
  all_goals first | rfl | exact talk'_farePoll .. | (simp only [talk'_farePoll] <;> rfl)

theorem talk'_tallyAdd (d : TallyVals) (w : Work) : (tallyAdd d w).talk' = w.talk' := by
  unfold tallyAdd
  try simp only []
  repeat' split
  all_goals rfl

theorem talk'_accepted (p : RecProducer) (r : Record) (w : Work) : (accepted p r w).talk' = w.talk' := by
  unfold accepted
  try simp only []
  repeat' split
  all_goals first | rfl | exact talk'_tallyAdd .. | (simp only [talk'_tallyAdd] <;> rfl)

theorem talk'_acceptFrom (c : Core) (p : RecProducer) (w : Work) : ∀ v, (acceptFrom c p w) = some v → v.talk' = w.talk' := by
  intro v h
  unfold acceptFrom at h
  try simp only [] at h
  repeat' split at h
  all_goals first
    | (cases h; done)
    | (cases h; rfl)
    | (cases h; exact talk'_accepted ..)
    | (cases h; simp only [talk'_accepted] <;> rfl)

theorem talk'_halfReady (c : Core) (h : Half) (w : Work) : (halfReady c h w).talk' = w.talk' := by
  unfold halfReady
  try simp only []
  repeat' split
  all_goals first | rfl | exact talk'_statusTold .. | exact talk'_raise .. | (simp only [talk'_statusTold, talk'_raise] <;> rfl)

theorem talk'_moveOne (c : Core) (w : Work) : ∀ v, (moveOne c w) = some v → v.talk' = w.talk' := by
  intro v h
  unfold moveOne at h
  try simp only [] at h
  repeat' split at h
  all_goals first
    | (cases h; done)
    | (cases h; rfl)
    | (cases h; exact talk'_halfReady ..)
    | (cases h; simp only [talk'_halfReady] <;> rfl)

theorem talk'_journalStep (c : Core) (w : Work) : ∀ v, (journalStep c w) = some v → v.talk' = w.talk' := by
  intro v h
  unfold journalStep at h
  split at h
  · next h' =>
    cases h
    exact talk'_moveOne c w _ h'
  · obtain ⟨p, _, hp⟩ := List.exists_of_findSome?_eq_some h
    exact talk'_acceptFrom c p w v hp

theorem talk'_journalRun (c : Core) (n : Nat) (w : Work) : (journalRun c n w).talk' = w.talk' := by
  induction n generalizing w with
  | zero => rfl
  | succ n ih =>
    unfold journalRun
    split
    · next h => rw [ih, talk'_journalStep c w _ h]
    · rfl

theorem talk'_journalPump (c : Core) (w : Work) : (journalPump c w).talk' = w.talk' := by
  unfold journalPump
  try simp only []
  repeat' split
  all_goals first | rfl | exact talk'_journalRun .. | (simp only [talk'_journalRun] <;> rfl)

/-! ## The console's results -/

theorem told_report (c : Core) (r : Report) (w : Work) : (report c r w).told = w.told := by
  unfold report Work.told
  split
  · simp
  · rfl

theorem told_place (c : Core) (k : SlotId) (f : Frame) (u : Purpose) (w : Work) : (place c k f u w).told = w.told := by
  unfold place LineIf.dropHand
  repeat' split
  all_goals rfl

theorem told_offerPic (c : Core) (p : Producer) (u : Purpose) (f : Frame) (w : Work) :
    (offerPic c p u f w).told = w.told := by
  unfold offerPic LineIf.dropHand
  simp only []
  repeat' split
  all_goals rfl

theorem told_reportAlert (c : Core) (a : AlertRec) (deferred : Bool) (carried : Option Nat) (w : Work) : (reportAlert c a deferred carried w).told = w.told := by
  unfold reportAlert
  try simp only []
  repeat' split
  all_goals first | rfl | exact told_report .. | (simp only [told_report] <;> rfl)

theorem told_consolePart (c : Core) (a : AlertRec) (cls : AlertClass) (carried : Option Nat) (w : Work) : (consolePart c a cls carried w).told = w.told := by
  unfold consolePart
  try simp only []
  repeat' split
  all_goals first | rfl | exact told_reportAlert .. | (simp only [told_reportAlert] <;> rfl)

theorem told_displayPart (a : AlertRec) (cls : AlertClass) (w : Work) : (displayPart a cls w).told = w.told := by
  unfold displayPart
  try simp only []
  repeat' split
  all_goals rfl

theorem told_framePart (a : AlertRec) (cls : AlertClass) (d : PartDest) (w : Work) : (framePart a cls d w).told = w.told := by
  unfold framePart
  try simp only []
  repeat' split
  all_goals rfl

theorem told_raiseParts (c : Core) (frames : Bool) (a : AlertRec) (w : Work) : (raiseParts c frames a w).told = w.told := by
  unfold raiseParts
  try simp only []
  repeat' split
  all_goals first | rfl | exact told_consolePart .. | exact told_displayPart .. | exact told_framePart .. | (simp only [told_consolePart, told_displayPart, told_framePart] <;> rfl)

theorem told_alertPoll (c : Core) (w : Work) : (alertPoll c w).told = w.told := by
  unfold alertPoll
  try simp only []
  repeat' split
  all_goals first | rfl | exact told_place .. | (simp only [told_place] <;> rfl)

theorem told_raise (c : Core) (a : AlertRec) (w : Work) : (raise c a w).told = w.told := by
  unfold raise
  try simp only []
  repeat' split
  all_goals first | rfl | exact told_raiseParts .. | exact told_alertPoll .. | (simp only [told_raiseParts, told_alertPoll] <;> rfl)

theorem told_statusTold (c : Core) (w : Work) : (statusTold c w).told = w.told := by
  unfold statusTold
  try simp only []
  repeat' split
  all_goals first | rfl | exact told_offerPic .. | (simp only [told_offerPic] <;> rfl)

theorem told_maskUpdate (c : Core) (w : Work) : (maskUpdate c w).told = w.told := by
  unfold maskUpdate
  try simp only []
  repeat' split
  all_goals rfl

theorem told_fareWait (c : Core) (r : FareRep) (w : Work) : (fareWait c r w).told = w.told := by
  unfold fareWait
  try simp only []
  repeat' split
  all_goals rfl

theorem told_farePoll (c : Core) (w : Work) : (farePoll c w).told = w.told := by
  unfold farePoll
  try simp only []
  repeat' split
  all_goals first | rfl | exact told_fareWait .. | exact told_report .. | (simp only [told_report] <;> rfl)

theorem told_fareMark (c : Core) (w : Work) : (fareMark c w).told = w.told := by
  unfold fareMark
  try simp only []
  repeat' split
  all_goals first | rfl | exact told_farePoll .. | (simp only [told_farePoll] <;> rfl)

theorem told_slotFreed (c : Core) (w : Work) : (slotFreed c w).told = w.told := by
  unfold slotFreed
  simp only [told_farePoll]
  repeat' split
  all_goals (try simp only [told_raise, told_maskUpdate]) <;> rfl

theorem told_giveNext (c : Core) (w : Work) : (giveNext c w).told = w.told := by
  unfold giveNext
  try simp only []
  repeat' split
  all_goals first | rfl | exact told_offerPic .. | exact told_slotFreed .. | (simp only [told_offerPic, told_slotFreed] <;> rfl)

theorem told_stateSettled (c : Core) (w : Work) : (stateSettled c w).told = w.told := by
  unfold stateSettled
  try simp only []
  repeat' split
  all_goals rfl

theorem told_hiringPoll (c : Core) (w : Work) : (hiringPoll c w).told = w.told := by
  unfold hiringPoll
  try simp only []
  repeat' split
  all_goals first | rfl | exact told_stateSettled .. | exact told_offerPic .. | exact told_giveNext .. | (simp only [told_offerPic, told_giveNext] <;> rfl)

theorem told_tallyAdd (d : TallyVals) (w : Work) : (tallyAdd d w).told = w.told := by
  unfold tallyAdd
  try simp only []
  repeat' split
  all_goals rfl

theorem told_accepted (p : RecProducer) (r : Record) (w : Work) : (accepted p r w).told = w.told := by
  unfold accepted
  try simp only []
  repeat' split
  all_goals first | rfl | exact told_tallyAdd .. | (simp only [told_tallyAdd] <;> rfl)

theorem told_acceptFrom (c : Core) (p : RecProducer) (w : Work) : ∀ v, (acceptFrom c p w) = some v → v.told = w.told := by
  intro v h
  unfold acceptFrom at h
  try simp only [] at h
  repeat' split at h
  all_goals first
    | (cases h; done)
    | (cases h; rfl)
    | (cases h; exact told_accepted ..)
    | (cases h; simp only [told_accepted] <;> rfl)

theorem told_halfReady (c : Core) (h : Half) (w : Work) : (halfReady c h w).told = w.told := by
  unfold halfReady
  try simp only []
  repeat' split
  all_goals first | rfl | exact told_raise .. | exact told_statusTold .. | (simp only [told_raise, told_statusTold] <;> rfl)

theorem told_moveOne (c : Core) (w : Work) : ∀ v, (moveOne c w) = some v → v.told = w.told := by
  intro v h
  unfold moveOne at h
  try simp only [] at h
  repeat' split at h
  all_goals first
    | (cases h; done)
    | (cases h; rfl)
    | (cases h; exact told_halfReady ..)
    | (cases h; simp only [told_halfReady] <;> rfl)

theorem told_journalStep (c : Core) (w : Work) : ∀ v, (journalStep c w) = some v → v.told = w.told := by
  intro v h
  unfold journalStep at h
  split at h
  · next h' =>
    cases h
    exact told_moveOne c w _ h'
  · obtain ⟨p, _, hp⟩ := List.exists_of_findSome?_eq_some h
    exact told_acceptFrom c p w v hp

theorem told_journalRun (c : Core) (n : Nat) (w : Work) : (journalRun c n w).told = w.told := by
  induction n generalizing w with
  | zero => rfl
  | succ n ih =>
    unfold journalRun
    split
    · next h => rw [ih, told_journalStep c w _ h]
    · rfl

theorem told_journalPump (c : Core) (w : Work) : (journalPump c w).told = w.told := by
  unfold journalPump
  try simp only []
  repeat' split
  all_goals first | rfl | exact told_journalRun .. | (simp only [told_journalRun] <;> rfl)

theorem told_cardPoll (c : Core) (w : Work) : (cardPoll c w).told = w.told := by
  unfold cardPoll
  try simp only []
  repeat' split
  all_goals first | rfl | exact told_offerPic .. | (simp only [told_offerPic] <;> rfl)

theorem told_authPoll (c : Core) (w : Work) : (authPoll c w).told = w.told := by
  unfold authPoll
  try simp only []
  repeat' split
  all_goals first | rfl | exact told_place .. | (simp only [told_place] <;> rfl)

theorem told_floorPoll (c : Core) (w : Work) : (floorPoll c w).told = w.told := by
  unfold floorPoll
  try simp only []
  repeat' split
  all_goals first | rfl | exact told_offerPic .. | (simp only [told_offerPic] <;> rfl)

theorem told_callTold (c0 : Core) (i0 : Intercom) (c : Core) (w : Work) : (callTold c0 i0 c w).told = w.told := by
  unfold callTold
  try simp only []
  repeat' split
  all_goals first | rfl | exact told_report .. | (simp only [told_report] <;> rfl)

theorem told_floorStanding (c : Core) (w : Work) : (floorStanding c w).told = w.told := by
  unfold floorStanding
  try simp only []
  repeat' split
  all_goals first | rfl | exact told_floorPoll .. | exact told_callTold .. | (simp only [told_floorPoll, told_callTold] <;> rfl)

theorem told_joinPoll (c : Core) (w : Work) : (joinPoll c w).told = w.told := by
  unfold joinPoll
  try simp only []
  repeat' split
  all_goals first | rfl | exact told_offerPic .. | (simp only [told_offerPic] <;> rfl)

theorem told_announcePoll (c : Core) (w : Work) : (announcePoll c w).told = w.told := by
  unfold announcePoll
  try simp only []
  repeat' split
  all_goals first | rfl | exact told_offerPic .. | exact told_statusTold .. | (simp only [told_offerPic, told_statusTold] <;> rfl)

theorem told_silencePoll (c : Core) (w : Work) : (silencePoll c w).told = w.told := by
  unfold silencePoll
  try simp only []
  repeat' split
  all_goals first | rfl | exact told_offerPic .. | (simp only [told_offerPic] <;> rfl)

theorem told_assistPoll (c : Core) (w : Work) : (assistPoll c w).told = w.told := by
  unfold assistPoll
  try simp only []
  repeat' split
  all_goals first | rfl | exact told_offerPic .. | (simp only [told_offerPic] <;> rfl)

theorem told_shiftPoll (c : Core) (w : Work) : (shiftPoll c w).told = w.told := by
  unfold shiftPoll
  try simp only []
  repeat' split
  all_goals first | rfl | exact told_offerPic .. | (simp only [told_offerPic] <;> rfl)

theorem told_callPoll (c : Core) (w : Work) : (callPoll c w).told = w.told := by
  unfold callPoll
  try simp only []
  repeat' split
  all_goals first | rfl | exact told_place .. | (simp only [told_place] <;> rfl)

theorem told_meterFeed (c : Core) (w : Work) : (meterFeed c w).told = w.told := by
  unfold meterFeed
  try simp only []
  repeat' split
  all_goals first | rfl | exact told_place .. | (simp only [told_place] <;> rfl)

theorem told_feedCommand (c : Core) (w : Work) : (feedCommand c w).told = w.told := by
  unfold feedCommand
  try simp only []
  repeat' split
  all_goals rfl

theorem told_feedBulk (c : Core) (w : Work) : (feedBulk c w).told = w.told := by
  unfold feedBulk
  try simp only []
  repeat' split
  all_goals rfl

theorem told_settle (c : Core) (w : Work) : (settle c w).told = w.told := by
  unfold settle
  split
  · simp only [told_feedBulk, told_feedCommand, told_meterFeed, told_alertPoll, told_callPoll, told_shiftPoll,
      told_assistPoll, told_silencePoll, told_announcePoll, told_joinPoll, told_floorStanding, told_authPoll,
      told_cardPoll, told_hiringPoll, told_journalPump]
  · rfl

/-! ## The journal at rest, and with a slot that stands -/

/-- A slot that stands has no record to hand over. -/
theorem handed_hiring (w : Work) (h : w.ret.slot.state.stands = true) : handed .hiring w = none := by
  simp only [handed]
  split
  · next hs _ => simp [hs, SlotState.stands] at h
  · rfl

theorem acceptFrom_atRest (c : Core) (p : RecProducer) (w : Work) (h : w.atRest = true) : acceptFrom c p w = none := by
  simp only [Work.atRest, Bool.and_eq_true, List.isEmpty_iff] at h
  obtain ⟨⟨⟨⟨h1, h2⟩, h3⟩, h4⟩, h5⟩ := h
  unfold acceptFrom
  split
  · cases p with
    | hiring => simp [handed_hiring w h5]
    | card => simp [handed, h3]
    | tally => simp [handed, h4]
    | headEvents => simp [handed, h2]
  · rfl

theorem moveOne_empty (c : Core) (w : Work) (h : w.ret.journal.intake = []) : moveOne c w = none := by
  unfold moveOne Journal.move
  simp [h]

/-- At rest the journal has nothing to do. -/
theorem journalPump_atRest (c : Core) (w : Work) (h : w.atRest = true) : journalPump c w = w := by
  have h1 : w.ret.journal.intake = [] := by
    simp only [Work.atRest, Bool.and_eq_true, List.isEmpty_iff] at h
    exact h.1.1.1.1
  unfold journalPump journalRun journalStep
  simp [moveOne_empty c w h1, acceptFrom_atRest c _ w h, producers]

theorem acceptFrom_stands (c : Core) (p : RecProducer) (w v : Work) (hs : w.ret.slot.state.stands = true)
    (h : acceptFrom c p w = some v) : v.fare = w.fare := by
  unfold acceptFrom at h
  split at h
  · split at h
    · cases h
    · next r q hr =>
      cases h
      cases p
      · simp only [handed] at hr
        split at hr
        · next hc _ => simp [hc, SlotState.stands] at hs
        · cases hr
      · rfl
      · simp only [accepted]
        split <;> rfl
      · rfl
  · cases h

theorem fare_journalRun (c : Core) (n : Nat) (w : Work) (hs : w.ret.slot.state.stands = true) :
    (journalRun c n w).fare = w.fare := by
  induction n generalizing w with
  | zero => rfl
  | succ n ih =>
    unfold journalRun
    split
    · next v h =>
      have hv : v.fare = w.fare := by
        unfold journalStep at h
        split at h
        · next h' =>
          cases h
          exact fare_moveOne c w _ h'
        · obtain ⟨p, _, hp⟩ := List.exists_of_findSome?_eq_some h
          exact acceptFrom_stands c p w v hs hp
      have hsl : v.ret.slot = w.ret.slot := congrArg Prod.fst hv
      rw [ih v (by rw [hsl]; exact hs), hv]
    · rfl

theorem calm_stateSettled (c : Core) (w : Work) : (stateSettled c w).calm = w.calm := by
  unfold stateSettled
  try simp only []
  repeat' split
  all_goals rfl

theorem fare_stateSettled (c : Core) (w : Work) : (stateSettled c w).fare = w.fare := by
  unfold stateSettled
  try simp only []
  repeat' split
  all_goals rfl

theorem talk'_stateSettled (c : Core) (w : Work) : (stateSettled c w).talk' = w.talk' := by
  unfold stateSettled
  try simp only []
  repeat' split
  all_goals rfl

/-- A slot that stands is not moved by the hiring controller's standing work, which only offers frames. -/
theorem hiringPoll_stands (c : Core) (w : Work) (hs : w.ret.slot.state.stands = true) :
    (hiringPoll c w).calm = w.calm ∧ (hiringPoll c w).fare = w.fare ∧ (hiringPoll c w).talk' = w.talk' := by
  unfold hiringPoll
  simp only []
  split
  · exact ⟨rfl, rfl, rfl⟩
  · split
    · exact ⟨calm_stateSettled .., fare_stateSettled .., talk'_stateSettled ..⟩
    split
    · exact ⟨calm_offerPic .., fare_offerPic .., talk'_offerPic ..⟩
    · split <;> first
        | exact ⟨calm_offerPic .., fare_offerPic .., talk'_offerPic ..⟩
        | (next h => simp [h, SlotState.stands] at hs; done)
        | (repeat' split) <;> first
            | exact ⟨rfl, rfl, rfl⟩
            | exact ⟨calm_offerPic .., fare_offerPic .., talk'_offerPic ..⟩

/-- Standing work leaves a slot that stands as it is. -/
theorem fare_settle (c : Core) (w : Work) (hs : w.ret.slot.state.stands = true) : (settle c w).fare = w.fare := by
  unfold settle
  split
  · have hj : (journalPump c w).fare = w.fare := fare_journalRun c 80 w hs
    have hsl : (journalPump c w).ret.slot = w.ret.slot := congrArg Prod.fst hj
    simp only [fare_feedBulk, fare_feedCommand, fare_meterFeed, fare_alertPoll, fare_callPoll, fare_shiftPoll,
      fare_assistPoll, fare_silencePoll, fare_announcePoll, fare_joinPoll, fare_floorStanding, fare_authPoll, fare_cardPoll]
    rw [(hiringPoll_stands c _ (by rw [hsl]; exact hs)).2.1, hj]
  · rfl

theorem talk'_floorPoll (c : Core) (w : Work) (h : w.ic.talk ≠ .asking) : (floorPoll c w).talk' = w.talk' := by
  unfold floorPoll
  simp only []
  split
  · rfl
  · split
    · exact talk'_offerPic ..
    · split
      · next h' => exact absurd h' h
      all_goals (repeat' split) <;> first | rfl | exact talk'_offerPic ..

/-- The intercom is left as it is by standing work, but for the mark of the CALL slot. -/
theorem talk'_settle (c : Core) (w : Work) (hs : w.ret.slot.state.stands = true) (ht : w.ic.talk ≠ .asking) :
    (settle c w).talk' = w.talk' := by
  unfold settle
  split
  · have hj : (journalPump c w).fare = w.fare := fare_journalRun c 80 w hs
    have hsl : (journalPump c w).ret.slot = w.ret.slot := congrArg Prod.fst hj
    have hh := (hiringPoll_stands c (journalPump c w) (by rw [hsl]; exact hs)).2.2
    have hx : (authPoll c (cardPoll c (hiringPoll c (journalPump c w)))).talk' = w.talk' := by
      rw [talk'_authPoll, talk'_cardPoll, hh, talk'_journalPump]
    have hxt : (authPoll c (cardPoll c (hiringPoll c (journalPump c w)))).ic.talk ≠ .asking := by
      have := congrArg Intercom.talk hx
      simp only [Work.talk'] at this
      rw [this]
      exact ht
    simp only [talk'_feedBulk, talk'_feedCommand, talk'_meterFeed, talk'_alertPoll, talk'_callPoll, talk'_shiftPoll,
      talk'_assistPoll, talk'_silencePoll, talk'_announcePoll, talk'_joinPoll]
    unfold floorStanding
    rw [talk'_callTold, talk'_floorPoll c _ hxt, hx]
  · rfl

/-- At rest standing work changes only what `Work.calm` leaves out. -/
theorem calm_settle (c : Core) (w : Work) (h : w.atRest = true) : (settle c w).calm = w.calm := by
  have hs : w.ret.slot.state.stands = true := by
    simp only [Work.atRest, Bool.and_eq_true] at h
    exact h.2
  unfold settle
  split
  · simp only [calm_feedBulk, calm_feedCommand, calm_meterFeed, calm_alertPoll, calm_callPoll, calm_shiftPoll,
      calm_assistPoll, calm_silencePoll, calm_announcePoll, calm_joinPoll, calm_floorStanding, calm_authPoll, calm_cardPoll]
    rw [journalPump_atRest c w h, (hiringPoll_stands c w hs).1]
  · rfl

/-- Standing work leaves every piece as it is. -/
theorem settle_untouched (c : Core) (w : Work) : Untouched [] w (settle c w) := by
  intro p _
  have hs := still_settle c w
  cases p with
  | now => exact (congrArg (fun v : Work => v.now) hs :)
  | clock =>
    exact ⟨(congrArg (fun v : Work => v.ret.clock) hs :), (congrArg (fun v : Work => v.ret.valid) hs :),
      (congrArg (fun v : Work => v.free) hs :)⟩
  | meter =>
    exact ⟨(congrArg (fun v : Work => v.meter) hs :), (congrArg (fun v : Work => v.ret.running) hs :),
      (congrArg (fun v : Work => v.ret.lastRunning) hs :)⟩
  | slot =>
    refine ⟨(congrArg (fun v : Work => v.ret.lastSeq) hs :), fun h => ?_⟩
    have := fare_settle c w h
    exact ⟨congrArg Prod.fst this, congrArg Prod.snd this⟩
  | card => exact ⟨(congrArg (fun v : Work => v.ret.card) hs :), (congrArg (fun v : Work => v.card) hs :)⟩
  | records =>
    intro h
    have := calm_settle c w h
    exact ⟨(congrArg (fun v : Work => v.ret.journal) this :), (congrArg (fun v : Work => v.ret.card.hold) this :),
      (congrArg (fun v : Work => v.ret.tally.hold) this :), (congrArg (fun v : Work => v.ret.tally.tally) this :)⟩
  | shift =>
    exact ⟨(congrArg (fun v : Work => v.shift) hs :), (congrArg (fun v : Work => v.ret.tally.copy) hs :),
      (congrArg (fun v : Work => v.ret.tally.counter) hs :)⟩
  | line => exact (congrArg (fun v : Work => v.line) hs :)
  | store => exact (congrArg (fun v : Work => v.store) hs :)
  | join => exact (congrArg (fun v : Work => v.join) hs :)
  | sign => exact (congrArg (fun v : Work => v.sign) hs :)
  | alerts =>
    intro h
    exact (congrArg (fun v : Work => v.alerts) (calm_settle c w h) :)
  | call => exact fun h1 h2 => talk'_settle c w h1 h2
  | stream => exact (congrArg (fun v : Work => v.stream) hs :)
  | ports => exact ⟨(congrArg (fun v : Work => v.keys) hs :), (congrArg (fun v : Work => v.assist) hs :)⟩
  | console =>
    exact ⟨(congrArg (fun v : Work => v.con.request) hs :), (congrArg (fun v : Work => v.con.rx) hs :), told_settle c w⟩

/-- Standing work after an effect leaves what the effect left. -/
theorem Untouched.settle {but : List Piece} {w v : Work} (c : Core) (h : Untouched but w v)
    (hs : w.ret.slot.state.stands = true → v.ret.slot.state.stands = true) (hr : w.atRest = true → v.atRest = true) :
    Untouched but w (settle c v) := by
  intro p hp
  have h1 := h p hp
  have h2 := settle_untouched c v p (by simp)
  cases p with
  | now => exact h2.trans h1
  | clock => exact ⟨h2.1.trans h1.1, h2.2.1.trans h1.2.1, h2.2.2.trans h1.2.2⟩
  | meter => exact ⟨h2.1.trans h1.1, h2.2.1.trans h1.2.1, h2.2.2.trans h1.2.2⟩
  | slot =>
    exact ⟨h2.1.trans h1.1, fun k => ⟨(h2.2 (hs k)).1.trans (h1.2 k).1, (h2.2 (hs k)).2.trans (h1.2 k).2⟩⟩
  | card => exact ⟨h2.1.trans h1.1, h2.2.trans h1.2⟩
  | records =>
    intro k
    have a := h1 k
    have b := h2 (hr k)
    exact ⟨b.1.trans a.1, b.2.1.trans a.2.1, b.2.2.1.trans a.2.2.1, b.2.2.2.trans a.2.2.2⟩
  | shift => exact ⟨h2.1.trans h1.1, h2.2.1.trans h1.2.1, h2.2.2.trans h1.2.2⟩
  | line => exact h2.trans h1
  | store => exact h2.trans h1
  | join => exact h2.trans h1
  | sign => exact h2.trans h1
  | alerts => exact fun k => (h2 (hr k)).trans (h1 k)
  | call =>
    intro k t
    have a := h1 k t
    have ht : v.ic.talk = w.ic.talk := (congrArg Intercom.talk a :)
    exact (h2 (hs k) (by rw [ht]; exact t)).trans a
  | stream => exact h2.trans h1
  | ports => exact ⟨h2.1.trans h1.1, h2.2.trans h1.2⟩
  | console => exact ⟨h2.1.trans h1.1, h2.2.1.trans h1.2.1, h2.2.2.trans h1.2.2⟩

end Sys2Proof.Machine
end

