-- ==== Sys2Proof/Laws/Console.lean ====
section
/-! SUPPORT. What the shared operations of the console port do to the results and the request in progress, and how a request meets the port. -/

namespace Sys2Proof.Machine

theorem request_elsewhere (t : NodeState → Bool) (go : Core → Work → Work) (c : Core) (w : Work) (h : linkServed c = false) :
    request t go c w = w := by
  unfold request
  simp [h]

theorem request_halted (t : NodeState → Bool) (go : Core → Work → Work) (c : Core) (w : Work) (h : linkServed c = true)
    (h1 : c.node = .halted) : request t go c w = reply (some .notInService) w := by
  unfold request
  simp [h, h1]

theorem request_busy (t : NodeState → Bool) (go : Core → Work → Work) (c : Core) (w : Work) (h : linkServed c = true)
    (h1 : c.node ≠ .halted) (h2 : w.con.request ≠ none) : request t go c w = answerBusy w := by
  have h3 : w.con.request.isSome = true := Option.isSome_iff_ne_none.mpr h2
  unfold request
  simp [h, h1, h3]

theorem request_untaken (t : NodeState → Bool) (go : Core → Work → Work) (c : Core) (w : Work) (h : linkServed c = true)
    (h1 : c.node ≠ .halted) (h2 : w.con.request = none) (h3 : t c.node = false) :
    request t go c w = reply (some .notInService) w := by
  unfold request
  simp [h, h1, h2, h3]

theorem request_taken (t : NodeState → Bool) (go : Core → Work → Work) (c : Core) (w : Work) (h : linkServed c = true)
    (h1 : c.node ≠ .halted) (h2 : w.con.request = none) (h3 : t c.node = true) :
    request t go c w = settle c (go c w) := by
  unfold request
  simp [h, h1, h2, h3]

theorem linkServed_head {c : Core} (h : c.straps.role = .head) (h1 : c.node.started = true) : linkServed c = true := by
  unfold linkServed Core.isHead
  simp [h, h1]

theorem linkServed_bay {c : Core} (h : c.straps.role = .bay) : linkServed c = false := by
  unfold linkServed Core.isHead
  simp [h]

end Sys2Proof.Machine
end

