-- ==== Sys2Proof/Laws/Line.lean ====
section
/-! SUPPORT. What the line does around a completed frame: the shared operations `completed`, `broadcast`, `addressed`, `decided` and `applyFrame`, each said once in the cases a proof meets. -/

namespace Sys2Proof.Machine

theorem started_of_serving {n : NodeState} (h : n.serving = true) : n.started = true := by
  cases n <;> simp_all [NodeState.serving, NodeState.started]

theorem onLine_of_serving {n : NodeState} (h : n.serving = true) : n.onLine = true := by
  cases n <;> simp_all [NodeState.serving, NodeState.onLine]

theorem started_of_joining {n : NodeState} (h : n.joining? = true) : n.started = true := by
  cases n <;> simp_all [NodeState.joining?, NodeState.started]

theorem serving_of_joining {c : Core} (h : c.node.joining? = true) : c.serving = false := by
  revert h
  unfold Core.serving
  cases c.node <;> simp [NodeState.joining?, NodeState.serving]

theorem serving_of_inService {c : Core} (h : c.node = .inService) : c.serving = true := by
  unfold Core.serving
  rw [h]
  rfl

@[simp] theorem completed_core (src : Station) (n : Node) : (completed src n).core = n.core := by
  unfold completed
  simp only []
  split <;> rfl

/-- The line's part of a completed frame of another station, at a node that marks and counts (02 R28, R46). -/
def Work.lineHeard (w : Work) (src : Station) : Work :=
  { w with line := { w.line with lastWinner := src, round := false, mark := none, objections := 0 } }

theorem completed_serving (src : Station) (n : Node) (h : n.core.serving = true) :
    completed src n = ⟨n.core, heardFrom src (n.w.lineHeard src)⟩ := by
  unfold completed Work.lineHeard
  have h1 := started_of_serving h
  have h2 := onLine_of_serving h
  simp only [h1, h2, h, if_true]

theorem completed_joining (src : Station) (n : Node) (h : n.core.node.joining? = true) :
    completed src n = ⟨n.core, n.w.lineHeard src⟩ := by
  have h1 := started_of_joining h
  have h2 : n.core.node.onLine = true := by
    unfold NodeState.onLine
    simp [h]
  have h3 := serving_of_joining h
  unfold completed Work.lineHeard
  simp only [h1, h2, h3, if_true, if_false, Bool.false_eq_true]

theorem sends_other (n : Node) (src : Station) (f : Frame) (h : src ≠ n.core.me) : n.sends src f = false := by
  unfold Node.sends
  simp [h]

theorem broadcast_other (src : Station) (f : Frame) (take : Node → Node) (n : Node) (h : n.sends src f = false) :
    broadcast src f take n = settleNode (take (completed src n)) := by
  unfold broadcast
  simp [h]

theorem broadcast_own (src : Station) (f : Frame) (take : Node → Node) (n : Node) (h : n.sends src f = true) :
    broadcast src f take n = frameOutcome Marks.none n := by
  unfold broadcast
  simp [h]

theorem addressed_taken (src : Station) (take : Core → Work → Option Work) (n : Node) (v : Work)
    (h : n.core.serving = true) (hv : take n.core (heardFrom src (n.w.lineHeard src)) = some v) :
    addressed src n.core.me take n = ⟨n.core, settle n.core (marked .taken v)⟩ := by
  unfold addressed
  rw [completed_serving _ _ h]
  simp only [h, and_self, if_true, hv]
  rfl

theorem addressed_refused (src : Station) (take : Core → Work → Option Work) (n : Node)
    (h : n.core.serving = true) (hv : take n.core (heardFrom src (n.w.lineHeard src)) = none) :
    addressed src n.core.me take n = ⟨n.core, settle n.core (marked .refused (heardFrom src (n.w.lineHeard src)))⟩ := by
  unfold addressed
  rw [completed_serving _ _ h]
  simp only [h, and_self, if_true, hv]
  rfl

theorem addressed_elsewhere (src dst : Station) (take : Core → Work → Option Work) (n : Node) (h : dst ≠ n.core.me) :
    addressed src dst take n = settleNode (completed src n) := by
  unfold addressed
  simp only [completed_core]
  rw [if_neg (fun hh => h hh.1)]

theorem decided_here (src : Station) (take : Core → Work → Bool × Work) (n : Node) (h : n.core.serving = true) :
    decided src n.core.me take n =
      ⟨n.core, settle n.core (marked (if (take n.core (heardFrom src (n.w.lineHeard src))).1 then .taken else .refused)
        (take n.core (heardFrom src (n.w.lineHeard src))).2)⟩ := by
  unfold decided
  rw [completed_serving _ _ h]
  simp only [h, and_self, if_true]
  rfl

theorem decided_elsewhere (src dst : Station) (take : Core → Work → Bool × Work) (n : Node) (h : dst ≠ n.core.me) :
    decided src dst take n = settleNode (completed src n) := by
  unfold decided
  simp only [completed_core]
  rw [if_neg (fun hh => h hh.1)]

/-- The core after a frame has been applied. -/
def Core.applied (c : Core) (src : Station) (f : PicFrame) : Core := { c with pic := some (c.view.apply src f).1 }

/-- The HEAD's own acts at a DROP come before the notice (log 6). -/
def Node.beforeNotice (n : Node) (src : Station) (f : PicFrame) : Work :=
  match f with
  | .drop s => headDrop (n.core.applied src f) n.core.view s n.w
  | _ => n.w

/-- A frame that makes this node neither leave service nor halt is applied, and the blocks get their notice. -/
theorem applyFrame_stays (n : Node) (src : Station) (f : PicFrame) (own : Option Offer) (h1 : f ≠ .drop n.core.me)
    (h2 : duplicated n.core.me src f own = false)
    (h3 : outranked n.core n.core.view (n.core.view.apply src f).1 src = false) :
    applyFrame src f own n = ⟨n.core.applied src f,
      notice n.core (n.core.applied src f) src f (n.core.view.apply src f).2 own (n.beforeNotice src f)⟩ := by
  unfold applyFrame
  extract_lets c0 p a c w
  have e1 : ¬(f = .drop c.me) := h1
  have e2 : duplicated c.me src f own = false := h2
  have e3 : outranked c p a.1 src = false := h3
  rw [if_neg e1, e2, e3]
  rfl

end Sys2Proof.Machine
end

