-- ==== Sys2Proof/WellFormed.lean ====
section
/-! DEFINITION. Which commands can reach the node: every operand fits the field that carries it, and an event is the event it says (02 R24 to R28, 12 sections 12.6 and 12.7). A command that is not well formed still has a meaning. -/

namespace Sys2Proof

/-- The number fits in so many bits. -/
def fits (bits n : Nat) : Bool := decide (n < 2 ^ bits)

/-- A time in 4 bytes, 0 with the clock-unset flag (12 R197). -/
def Stamp.fits (t : Stamp) : Bool := Sys2Proof.fits 32 t.secs && (!t.unset || t.secs == 0)

/-- A token of 16 bytes (09 R145). -/
def tokenFits (t : List Byte) : Bool := t.length == 16

/-- The fields of a fare report are carried in their ranges (04 R64, R81). -/
def FareRep.fits (r : FareRep) : Bool := decide (1 ≤ r.band ∧ r.band ≤ 8 ∧ 1 ≤ r.metresPerUnit ∧ r.metresPerUnit ≤ 100) && (r.hold.isSome == (r.state == .held))

/-- The record fits a snapshot part: each has at most the roster's and hiring roster's lengths (01 R2, R4). -/
def PartContent.fits : PartContent → Bool
  | .roster r => decide (r.length ≤ 16)
  | .words _ _ _ => true
  | .hirings h => decide (h.length ≤ 4)

/-- The approval code of a reply, 6 characters, is present when approved (09 R152). -/
def AuthRep.fits (r : AuthRep) : Bool :=
  Sys2Proof.fits 32 r.amount && (r.code.isSome == r.approved) && (match r.code with
    | some c => c.length == 6
    | none => true)

/-- The fields of a date-time as numbers (04 R68). -/
def DateTime.fits (t : DateTime) : Bool :=
  Sys2Proof.fits 16 t.year && [t.month, t.day, t.hour, t.minute, t.second].all fun n => Sys2Proof.fits 8 n

/-- Kinds of card link message the reader sends (12 section 12.7). -/
def readerKindKnown (kind : Byte) : Bool := kind == 0x81 || kind == 0x82 || kind == 0x83

/-- The kind byte of a link message. -/
def linkKind (bytes : List Byte) : Byte := (bytes[2]?).getD 0

/-- The frame is what a receiver judges failed or takes as a collision (02 R25, R29). -/
def RawFrame.bad (f : RawFrame) : Bool := f.payload.length == f.length.toNat && !(f.agrees && f.good)

/-- The command can reach the node. -/
def Instr.wellFormed : Instr → Bool
  | .resetEnd _ m _ => match m with
    | some l => l.length == 512
    | none => true
  | .attemptStart first => match first with
    | some k => decide (k < 64)
    | none => true
  | .frameJudgedFailed f ranOn => f.bad && (f.agrees || ranOn)
  | .unknownFrame _ cls kind dest => fits 2 cls && fits 6 kind && fits 5 dest && (!frameInPlace cls kind dest || rowless kind)
  | .status _ st => fits 8 st.fwd
  | .shiftOpen _ n d o => fits 16 n && fits 16 d && o.fits
  | .closeCall _ n _ => fits 16 n
  | .closeCommit _ n _ => fits 16 n
  | .hireOpen _ _ _ _ t => t.fits
  | .hireReclaim _ _ _ _ _ t => t.fits
  | .snapshot _ _ p => p.content.fits
  | .closeReady _ _ n _ => fits 16 n
  | .hireCommandExtra _ _ _ c => fits 8 c
  | .hireCommandCash _ _ _ a => fits 32 a
  | .distance _ n _ => fits 8 n
  | .time _ t => fits 32 t
  | .fareReport _ _ r => r.fits
  | .alert _ _ _ _ lost => fits 8 lost
  | .voice _ _ l => decide (l.length ≤ 100)
  | .authReply _ _ r => r.fits
  | .tally _ n _ => fits 16 n
  | .cardPresented c => tokenFits c.token && fits 4 c.scheme
  | .cardLinkDiscard l => !(linkGood l && readerKindKnown (linkKind l))
  | .consoleExtra _ c => fits 8 c
  | .consoleCash _ a => fits 32 a
  | .consoleShiftOpen d => fits 16 d
  | .consoleSetTime t => t.fits
  | .consoleUnknownRequest k => !consoleKindKnown k
  | .consoleMessageDiscard l => l.head? == some startByte && !linkGood l
  | .consoleByteGapExpiry l => !linkGood l
  | _ => true

end Sys2Proof
end

