-- ==== Sys2Proof/Tests/Slice0.lean ====
section
/-! SUPPORT. Tests: ill-formed commands refused, small states on which commands are run once with the numbers of the spec's worked examples, and for each statement a state that meets its hypotheses. -/

namespace Sys2Proof.Tests

open Sys2Proof Sys2Proof.Machine

set_option Elab.async false

/-! ## Small states -/

/-- The bands and the window of 04 section 4.8, two pulses a unit. -/
def cfg0 : Cfg :=
  { Cfg.blank with
    seatMask := 0x3F#8, passengerStart := true, pulsesPerUnit := 2, floorLimit := 2000, offlineCap := 5
    bands := [⟨300, 60, 40, 30, 20, 10, 2⟩, ⟨400, 70, 50, 38, 28, 18, 3⟩]
    windows := [⟨127, 1200, 360, 2⟩]
    extras := [⟨150, true⟩, ⟨80, false⟩] }

def entry (s : Station) (r : Role) : RosterEntry := ⟨s, r, false, false, 0x3F#8, 7, .inService, false, false, false, 0, none⟩

/-- The vehicle of 01 section 1.7 before its hirings: HEAD 0, BAY 3 and 4, GATEWAY 9, shift 12 open. -/
def pic0 : Picture where
  roster := [entry 0 .head, entry 3 .bay, entry 4 .bay, entry 9 .gateway]
  claims := Claims.free.set .shift ⟨some 0, 12⟩
  hirings := []
  shift := some ⟨12, 77, ⟨1000, false⟩⟩
  digest := 7
  seq := 200

def w0 : Work := Work.fresh 10000000 0 Retained.cold

def coreAt (me : Station) (role : StrapRole) (node : NodeState) : Core :=
  { node := node, halt := none, straps := ⟨me, role, true, true⟩, cfg := cfg0, digest := 7, standby := true,
    pic := if node.serving then some pic0 else none }

def headCore : Core := coreAt 0 .head .inService
def bayCore : Core := coreAt 3 .bay .inService
def joinCore : Core := coreAt 3 .bay .joining

def on (c : Core) (w : Work) : State := ⟨[], c, w⟩

def head (w : Work) : State := on headCore w
def bay (w : Work) : State := on bayCore w
def joiner (w : Work) : State := on joinCore w

/-- The node with another picture. -/
def seeing (c : Core) (p : Picture) : Core := { c with pic := some p }

/-- The node that a command leaves; every command answers a next state. -/
def out (i : Instr) (s : State) : Node :=
  match exec i s with
  | .next t => t.node
  | _ => s.node

def tag (home : Station) (seq : Fin 4096) : Tag := ⟨home, seq⟩
def offer (f : Frame) : Offer := ⟨f, none, .plain, 9000000, 0, false, false, false⟩
def by' (p : Producer) (f : PicFrame) : Offer := ⟨.pic f, some p, .plain, 9000000, 0, false, false, false⟩

def slotW (s : Slot) : Work := { w0 with ret := { w0.ret with slot := s } }

/-- A slot of the first party of 04 section 4.8. -/
def slot0 (st : SlotState) : Slot :=
  { Slot.cold with state := st, tag := tag 3 40, mode := .shared, seats := 0x06#8, band := 1, distance := 28, waiting := 12,
                   fare := 1180, subtotals := [(1, 1180)] }

def cardW (s : Slot) (k : CardRet) : Work := { w0 with ret := { w0.ret with slot := s, card := k } }

def callW (i : Intercom) : Work := { w0 with ic := i }

/-- The frame stands in the slot and its attempt is under way. -/
def airW (k : SlotId) (o : Offer) (w : Work) : Work :=
  { w with sel := w.sel.set k (some o), line := { w.line with round := true, inHand := some k, sending := true } }

/-! ## The configuration memory and the checks -/

/-- A configuration memory of two bands and one window, with its check. -/
def memory0 : List Byte :=
  ([0, 0, 0, 42, 0x3F, 1, 10, 20, 0, 2, 0, 7, 208, 5, 2, 1] ++
   [0, 1, 44, 0, 60, 0, 40, 0, 30, 0, 20, 0, 10, 0, 2, 0] ++
   [0, 1, 144, 0, 70, 0, 50, 0, 38, 0, 28, 0, 18, 0, 3, 0] ++ List.replicate 96 0 ++
   [0xFF, 0x2C, 0x0B, 0x41] ++ List.replicate 60 0 ++ [0, 0, 150, 1, 0, 0, 80, 0] ++ List.replicate 24 0 ++
   List.replicate 24 3 ++ [0, 0, 0, 15] ++ List.replicate 242 0 ++ [0x41, 0x0A]).map fun (n : Nat) => BitVec.ofNat 8 n

/-! ## Ill-formed commands are refused -/

def stampBad : Stamp := ⟨1, true⟩
def fare0 : FareRep := ⟨tag 3 40, .running, none, 0, 0, 0, 0, 0, 0, 1, 0, 10, 0, false⟩
def auth0 : AuthRep := ⟨5, tag 3 40, true, 1180, some [1, 2, 3, 4, 5, 6], 1⟩
def card0 : CardRead := ⟨List.replicate 16 7, 4, some .tap, false⟩
def frame0 : RawFrame := ⟨2, ~~~ (2 : BitVec 4), 1, 16, 16, 1, [0xA5], 0⟩

theorem test_ill_formed_resets_and_line :
    (Instr.resetEnd ⟨0, .head, false, false⟩ (some [1, 2]) Keys.up).wellFormed = false ∧
    (Instr.attemptStart (some 64)).wellFormed = false ∧
    (Instr.frameJudgedFailed { frame0 with check := crcBits frame0.covered } false).wellFormed = false ∧
    (Instr.frameJudgedFailed { frame0 with payload := [] } false).wellFormed = false ∧
    (Instr.frameJudgedFailed { frame0 with complement := 0 } false).wellFormed = false ∧
    (Instr.unknownFrame 2 4 60 16).wellFormed = false ∧ (Instr.unknownFrame 2 1 64 16).wellFormed = false ∧
    (Instr.unknownFrame 2 1 60 32).wellFormed = false ∧ (Instr.unknownFrame 2 1 1 16).wellFormed = false := by decide +kernel

theorem test_ill_formed_picture_frames :
    (Instr.status 2 ⟨some .inService, false, false, false, 256⟩).wellFormed = false ∧
    (Instr.shiftOpen 0 65536 77 Stamp.zero).wellFormed = false ∧ (Instr.shiftOpen 0 12 65536 Stamp.zero).wellFormed = false ∧
    (Instr.shiftOpen 0 12 77 stampBad).wellFormed = false ∧ (Instr.closeCall 0 65536 false).wellFormed = false ∧
    (Instr.closeCommit 0 65536 false).wellFormed = false ∧
    (Instr.hireOpen 3 (tag 3 40) (some .shared) 0x06#8 ⟨4294967296, false⟩).wellFormed = false ∧
    (Instr.hireReclaim 3 (tag 3 40) (some .running) (some .shared) 0x06#8 stampBad).wellFormed = false := by decide +kernel

theorem test_ill_formed_other_frames :
    (Instr.snapshot 0 3 ⟨0, 0, .roster (List.replicate 17 (entry 0 .head))⟩).wellFormed = false ∧
    (Instr.snapshot 0 3 ⟨0, 0, .hirings (List.replicate 5 ⟨tag 3 40, .shared, 0x06#8, .active .running, Stamp.zero⟩)⟩).wellFormed = false ∧
    (Instr.closeReady 3 0 65536 .ready).wellFormed = false ∧ (Instr.hireCommandExtra 0 3 (tag 3 40) 256).wellFormed = false ∧
    (Instr.hireCommandCash 0 3 (tag 3 40) 4294967296).wellFormed = false ∧ (Instr.distance 0 256 0).wellFormed = false ∧
    (Instr.time 0 4294967296).wellFormed = false ∧ (Instr.fareReport 3 0 { fare0 with band := 9 }).wellFormed = false ∧
    (Instr.fareReport 3 0 { fare0 with hold := some .command }).wellFormed = false ∧
    (Instr.fareReport 3 0 { fare0 with metresPerUnit := 0 }).wellFormed = false ∧
    (Instr.alert 3 0 .normal none 256).wellFormed = false ∧
    (Instr.voice 3 (.station 0) (List.replicate 101 0)).wellFormed = false ∧
    (Instr.authReply 9 3 { auth0 with amount := 4294967296 }).wellFormed = false ∧
    (Instr.authReply 9 3 { auth0 with code := none }).wellFormed = false ∧
    (Instr.authReply 9 3 { auth0 with code := some [1] }).wellFormed = false ∧
    (Instr.tally 3 65536 (TallyVals.zero none)).wellFormed = false := by decide +kernel

theorem test_ill_formed_ports_and_console :
    (Instr.cardPresented { card0 with token := [1] }).wellFormed = false ∧
    (Instr.cardPresented { card0 with scheme := 16 }).wellFormed = false ∧
    (Instr.cardLinkDiscard (linkMessage 0x82 [])).wellFormed = false ∧ (Instr.consoleExtra (tag 3 40) 256).wellFormed = false ∧
    (Instr.consoleCash (tag 3 40) 4294967296).wellFormed = false ∧ (Instr.consoleShiftOpen 65536).wellFormed = false ∧
    (Instr.consoleSetTime ⟨65536, 1, 1, 0, 0, 0⟩).wellFormed = false ∧ (Instr.consoleSetTime ⟨2024, 256, 1, 0, 0, 0⟩).wellFormed = false ∧
    (Instr.consoleUnknownRequest 0x15).wellFormed = false ∧ (Instr.consoleMessageDiscard (linkMessage 0x15 [])).wellFormed = false ∧
    (Instr.consoleMessageDiscard [0x00]).wellFormed = false ∧ (Instr.consoleByteGapExpiry (linkMessage 0x16 [])).wellFormed = false := by decide +kernel

theorem test_well_formed_commands :
    [Instr.attemptStart (some 63), .frameJudgedFailed frame0 false, .unknownFrame 2 3 60 16, .distance 0 255 1203,
     .fareReport 3 0 fare0, .authReply 9 3 auth0, .cardPresented card0, .consoleMessageDiscard [0xA5, 0x00],
     .cardLinkDiscard [0xA5], .consoleUnknownRequest 0x16, .lineIdle].all Instr.wellFormed = true := by decide +kernel

def chunk (k : Nat) : List Byte := ((memory0.take 0x1FE).drop (32 * k)).take 32

theorem test_check_of_the_memory : memoryCheck memory0 = true := by
  have e : memory0.take 0x1FE = ((List.range 16).map chunk).flatten := by decide +kernel
  have h0 : (chunk 0).foldl (fun r b => (bitsOf b).foldl crcBit r) 0xFFFF#16 = 0xbab3#16 := by decide +kernel
  have h1 : (chunk 1).foldl (fun r b => (bitsOf b).foldl crcBit r) 0xbab3#16 = 0x61e1#16 := by decide +kernel
  have h2 : (chunk 2).foldl (fun r b => (bitsOf b).foldl crcBit r) 0x61e1#16 = 0x1861#16 := by decide +kernel
  have h3 : (chunk 3).foldl (fun r b => (bitsOf b).foldl crcBit r) 0x1861#16 = 0xf9ef#16 := by decide +kernel
  have h4 : (chunk 4).foldl (fun r b => (bitsOf b).foldl crcBit r) 0xf9ef#16 = 0x95a4#16 := by decide +kernel
  have h5 : (chunk 5).foldl (fun r b => (bitsOf b).foldl crcBit r) 0x95a4#16 = 0x5d21#16 := by decide +kernel
  have h6 : (chunk 6).foldl (fun r b => (bitsOf b).foldl crcBit r) 0x5d21#16 = 0x51a7#16 := by decide +kernel
  have h7 : (chunk 7).foldl (fun r b => (bitsOf b).foldl crcBit r) 0x51a7#16 = 0xf022#16 := by decide +kernel
  have h8 : (chunk 8).foldl (fun r b => (bitsOf b).foldl crcBit r) 0xf022#16 = 0x3eb0#16 := by decide +kernel
  have h9 : (chunk 9).foldl (fun r b => (bitsOf b).foldl crcBit r) 0x3eb0#16 = 0xf8a2#16 := by decide +kernel
  have h10 : (chunk 10).foldl (fun r b => (bitsOf b).foldl crcBit r) 0xf8a2#16 = 0x3565#16 := by decide +kernel
  have h11 : (chunk 11).foldl (fun r b => (bitsOf b).foldl crcBit r) 0x3565#16 = 0xbeaf#16 := by decide +kernel
  have h12 : (chunk 12).foldl (fun r b => (bitsOf b).foldl crcBit r) 0xbeaf#16 = 0x76a4#16 := by decide +kernel
  have h13 : (chunk 13).foldl (fun r b => (bitsOf b).foldl crcBit r) 0x76a4#16 = 0x4ad9#16 := by decide +kernel
  have h14 : (chunk 14).foldl (fun r b => (bitsOf b).foldl crcBit r) 0x4ad9#16 = 0x1516#16 := by decide +kernel
  have h15 : (chunk 15).foldl (fun r b => (bitsOf b).foldl crcBit r) 0x1516#16 = 0x410a#16 := by decide +kernel
  have h : crcBytes (memory0.take 0x1FE) = 0x410a#16 := by
    unfold crcBytes
    rw [e]
    simp only [show List.range 16 = [0, 1, 2, 3, 4, 5, 6, 7, 8, 9, 10, 11, 12, 13, 14, 15] from rfl, List.map_cons, List.map_nil,
      List.flatten_cons, List.flatten_nil, List.append_nil, List.foldl_append, h0, h1, h2, h3, h4, h5, h6, h7, h8, h9, h10,
      h11, h12, h13, h14, h15]
  unfold memoryCheck
  rw [h]
  decide +kernel

/-- What the memory says (12 section 12.8). -/
def cfg1 : Cfg where
  vehicleId := 42
  seatMask := 0x3F#8
  passengerStart := true
  metresPerUnit := 10
  driveQuietQ := 20
  pulsesPerUnit := 2
  floorLimit := 2000
  offlineCap := 5
  bands := [⟨300, 60, 40, 30, 20, 10, 2⟩, ⟨400, 70, 50, 38, 28, 18, 3⟩]
  windows := [⟨127, 1200, 360, 2⟩]
  extras := [⟨150, true⟩, ⟨80, false⟩] ++ List.replicate 6 ⟨0, false⟩
  routes := List.replicate 24 ⟨.both, .normal⟩
  digestFirst := 0
  digestLast := 15

theorem test_configuration_read : decodeConfig (some memory0) = some cfg1 := by
  have l : memory0.length = 512 := by decide +kernel
  have f : decodeFields memory0 = some cfg1 := by decide +kernel
  simp only [decodeConfig, l, test_check_of_the_memory, f, decide_true, Bool.and_self, if_true]

/-! ## States that meet the hypotheses of the statements -/

def takeLane : PicFrame := .take (some .lane) 5
def statusIn : StatusPay := ⟨some .inService, false, false, false, 0⟩
def hello4 : HelloPay := ⟨some .bay, false, false, 0x3F#8, 7, some (tag 4 5)⟩

theorem test_met_steps : State.reset.pending = [] ∧ State.reset.ok = true ∧ State.reset.ringOk = true ∧ (head w0).ok = true ∧
    (∃ t, step { head w0 with pending := [.take 3 (some .lane) 5] } = .next t) ∧ (∃ t, step State.reset = .next t) :=
  ⟨rfl, rfl, rfl, by decide +kernel, ⟨_, rfl⟩, ⟨_, rfl⟩⟩

theorem test_met_start : State.reset.node.core.node = .reset ∧ decodeConfig none = none ∧
    decodeConfig (some memory0) = some cfg1 ∧
    (let s := State.reset
     (s.node.w.ret.valid && s.node.core.standby) = false ∧
       (s.node.w.ret.valid && { s.node.core with standby := true }.standby) = true) :=
  ⟨rfl, rfl, test_configuration_read, rfl, rfl⟩

def lampW : Work :=
  { w0 with sign := { Sign.init with state := .forHire, test := some 12000000, forHire := ⟨true, false, 0, some 9000000, false, false⟩ } }

theorem test_met_sign : ((signOf headCore).1 = .forHire ∧ (signOf joinCore).1 = .suspended) ∧
    (signOf (seeing headCore { pic0 with hirings := [⟨tag 3 40, .shared, 0x06#8, .active .running, Stamp.zero⟩] })).1 = .share ∧
    lampW.sign.test = some 12000000 ∧ headCore.straps.sign = true ∧ headCore.node.started = true ∧
    (lampW.sign.lamp .forHire).since = some 9000000 ∧ (lampW.sign.lamp .forHire).driven = true ∧
    (lampW.sign.lamp .hired).driven = false := by decide +kernel

/-- A round open, with the frame chosen in hand. -/
def roundW (k : SlotId) (o : Offer) : Work :=
  { w0 with sel := w0.sel.set k (some o), line := { w0.line with round := true, inHand := some k } }

theorem test_met_rounds : headCore.node.onLine = true ∧ (roundW .command (offer .snapshotAsk)).line.round = true ∧
    (roundW .command (offer .snapshotAsk)).line.sending = false ∧ (1 : BitVec 4) ≠ ~~~ (2 : BitVec 4) ∧
    (roundW .command (offer .snapshotAsk)).sel.choose = some .command ∧ Selector.empty.choose = none ∧
    (∀ k, Selector.empty.get k = none) ∧ Frame.snapshotAsk.cls < (Frame.fareReport 0 fare0).cls ∧
    (roundW .command (offer .snapshotAsk)).line.inHand = some .command ∧
    (roundW .command (offer .snapshotAsk)).sel.get .command = some (offer .snapshotAsk) ∧
    rank 0 15 .snapshotAsk ≤ 16 ∧ 15 < rank 0 15 .snapshotAsk := by
  refine ⟨rfl, rfl, rfl, by decide, rfl, rfl, ?_, by decide, rfl, rfl, by decide, by decide⟩
  intro k; cases k <;> rfl

def stopBay : Frame := .hireCommand 3 (.stop (tag 3 40))
/-- A HEAD whose console request waits for the outcome of its HIRE_COMMAND, sent so many times. -/
def relayW (attempts : Nat) : Work :=
  { airW .command { offer stopBay with purpose := .console, attempts := attempts } w0 with con := { Console.init with request := some .hire } }

/-- The same with the frame's line-wait limit expired during its attempt. -/
def lateRelayW : Work :=
  { relayW 1 with sel := { (relayW 1).sel with command := (relayW 1).sel.command.map fun o => { o with expired := true } } }

theorem test_met_failed_frames : headCore.node.onLine = true ∧ w0.line.sending = false ∧
    (frame0.agrees = true ∧ frame0.good = false) ∧ { frame0 with complement := 0 }.agrees = false ∧
    w0.line.objections + 1 < 8 ∧ 8 ≤ { w0.line with objections := 7 }.objections + 1 ∧
    (∃ o, (relayW 1).onAir = some (.command, o) ∧ o.leaving = false ∧ o.attempts < 8 ∧ o.expired = false) ∧
    (∃ o, (relayW 8).onAir = some (.command, o) ∧ o.leaving = false ∧ o.dead = false ∧ 8 ≤ o.attempts ∧
      o.frame = .hireCommand 3 (.stop (tag 3 40))) ∧ (relayW 8).con.request = some .hire ∧
    (∃ o, lateRelayW.onAir = some (.command, o) ∧ o.leaving = false ∧ o.dead = false ∧ o.attempts < 8 ∧ o.expired = true ∧
      o.frame = .hireCommand 3 (.stop (tag 3 40))) ∧ lateRelayW.con.request = some .hire :=
  ⟨rfl, rfl, by decide +kernel, by decide, by decide, by decide, ⟨_, rfl, rfl, by decide, rfl⟩,
   ⟨_, rfl, rfl, rfl, by decide, rfl⟩, rfl, ⟨_, rfl, rfl, rfl, by decide, rfl, rfl⟩, rfl⟩

def ownW : Work := airW .picture { by' .card takeLane with attempts := 1 } w0

theorem test_met_own_outcomes : (∃ o, OnAir (head (relayW 1)).node .command o ∧ o.frame = .hireCommand 3 (.stop (tag 3 40))) ∧
    (∃ o, OnAir (head ownW).node .picture o ∧ o.frame = .pic takeLane) ∧ takeLane ≠ .drop headCore.me ∧
    outranked headCore headCore.view (headCore.view.apply headCore.me takeLane).1 headCore.me = false ∧
    (head ownW).node.sends 0 (.pic takeLane) = true :=
  ⟨⟨_, ⟨rfl, rfl, rfl, rfl⟩, rfl⟩, ⟨_, ⟨rfl, rfl, rfl, rfl⟩, rfl⟩, by decide, by decide +kernel, by decide +kernel⟩

def waitW : Work :=
  { w0 with
    sel := { (w0.sel.set .command (some { offer stopBay with purpose := .console })) with
      fifo := [by' .tally (.shiftOpen 13 77 ⟨5000, false⟩)] }
    con := { Console.init with request := some .hire }
    store := { Store.init with presence := some 9000000, silence := [⟨3, 5000000, false⟩] } }

theorem test_met_line_timers : (∃ k o, ownW.onAir = some (k, o)) ∧
    (∃ o, waitW.sel.get .command = some o ∧ o.leaving = false ∧ o.dead = false ∧ o.frame = .hireCommand 3 (.stop (tag 3 40))) ∧
    (waitW.line.sending && waitW.line.inHand == some .command) = false ∧ waitW.con.request = some .hire ∧
    (∃ o, (waitW.sel.fifo.find? fun x => x.isBy .tally) = some o ∧ o.leaving = false ∧ o.dead = false ∧
      o.frame = .pic (.shiftOpen 13 77 ⟨5000, false⟩)) ∧
    waitW.store.presence = some 9000000 ∧ waitW.sel.has .status = false ∧
    (waitW.store.silence.find? fun y => y.station == 3 && !y.fired) = some ⟨3, 5000000, false⟩ ∧
    (∃ w : Work, w.con.request = some .shiftOpen ∧ w.sel = waitW.sel) :=
  ⟨⟨_, _, rfl⟩, ⟨_, rfl, rfl, rfl, rfl⟩, rfl, rfl, ⟨_, rfl, rfl, rfl, rfl⟩, rfl, by decide, by decide,
   ⟨{ waitW with con := { Console.init with request := some .shiftOpen } }, rfl, rfl⟩⟩

/-- A second HEAD that outranks the HEAD 2. -/
def twoHeads : Picture := { pic0 with roster := [{ entry 0 .head with state := .joining }, entry 2 .head] }

theorem test_met_picture_frames : MeetsAsHolder 3 takeLane (head w0).node ∧ headCore.serving = true ∧
    (head w0).node.sends 3 (.pic takeLane) = false ∧ joinCore.node.joining? = true ∧
    (joiner w0).node.sends 3 (.pic (.status statusIn)) = false ∧ (head w0).node.sends 4 (.pic (.drop 0)) = false ∧
    outranked (seeing (coreAt 2 .head .inService) twoHeads) twoHeads (twoHeads.apply 0 (.status statusIn)).1 0 = true ∧
    (∀ st, takeLane ≠ .status st) ∧ (pic0.apply 3 (.status statusIn)).1.entry 3 = pic0.entry 3 ∧
    (pic0.apply 3 (.status { statusIn with lockout := true })).1.entry 3 ≠ pic0.entry 3 := by
  refine ⟨⟨rfl, rfl, by decide, ?_, by decide +kernel⟩, rfl, rfl, rfl, by decide +kernel, by decide +kernel, by decide +kernel,
    ?_, by decide +kernel, by decide +kernel⟩
  · intro st h; cases h
  · intro st h; cases h

def rival : Picture := { pic0 with claims := pic0.claims.set .lane ⟨some 4, 9⟩ }
def seated : Picture := { pic0 with claims := (pic0.claims.set (.seat 1) ⟨some 3, (tag 3 18).code⟩).set .floor ⟨some 3, 0⟩ }

theorem test_met_roster_and_words : rosterOrdered pic0.roster = true ∧ hello4.mask &&& 0xC0#8 = 0#8 ∧ (tag 4 5).seq ≠ 0 ∧
    { hello4 with mask := 0x40#8 }.mask &&& 0xC0#8 ≠ 0#8 ∧ { hello4 with tag := some (tag 4 0) }.tag = some ⟨4, 0⟩ ∧
    pic0.entry 3 = some (entry 3 .bay) ∧ pic0.entry 2 = none ∧ statusIn.state ≠ some .joining ∧ statusIn.fwd ≤ 4 ∧
    (seated.claim .floor).holder = some 3 ∧ (pic0.claim .lane).holder ≠ some 3 ∧ (16 : BitVec 16).toNat ≤ 16 := by decide +kernel

theorem test_met_takes : MayTake pic0 3 .floor 16 ∧ ¬MayTake pic0 3 .floor 17 ∧ ¬MayTake pic0 3 .shift 1 ∧
    MayTake pic0 9 .drain 9 ∧ ¬MayTake pic0 9 .drain 8 ∧ MayTake pic0 0 .assist 0 ∧ ¬MayTake pic0 3 .assist 0 ∧
    InServiceHead pic0 0 ∧ ¬InServiceHead pic0 3 ∧ MayTake rival 3 .lane 5 ∧ (rival.claim .lane).holder = some 4 ∧
    MayTake seated 3 .floor 0 ∧ (seated.claim .floor).holder = some 3 ∧ (pic0.claim .floor).holder = none := by
  refine ⟨⟨⟨_, rfl, by decide⟩, by decide⟩, ?_, ?_, ⟨⟨_, rfl, by decide⟩, by decide⟩, ?_, ⟨⟨_, rfl, by decide⟩, rfl⟩, ?_,
    ⟨_, rfl, by decide⟩, ?_, ⟨_, rfl, by decide⟩, rfl, ⟨⟨_, rfl, by decide⟩, by decide⟩, rfl, rfl⟩
  · rintro ⟨_, h⟩; exact absurd h (by decide)
  · intro h; exact h
  · rintro ⟨_, h⟩; exact absurd h (by decide)
  · rintro ⟨⟨e, h, r⟩, _⟩; cases h; exact absurd r.1 (by decide)
  · rintro ⟨e, h, r⟩; cases h; exact absurd r.1 (by decide)

theorem test_met_take_sets : ((0x02#8 : SeatSet) ≠ 0 ∧ (0x02#8 : SeatSet) &&& 0xC0#8 = 0#8 ∧ (tag 3 18).home = 3 ∧ (tag 3 18).seq ≠ 0 ∧
      pic0.cn40 3 = true) ∧ (0x40#8 : SeatSet) &&& 0xC0#8 ≠ 0#8 ∧ pic0.cn40 9 = false ∧
    seated.claim (.seat 1) = ⟨some 3, (tag 3 18).code⟩ ∧
    (∀ i : Fin 6, (0x02#8 : SeatSet).getLsbD i.val = true → seated.claim (.seat i) = ⟨some 3, (tag 3 18).code⟩) ∧
    (∃ i : Fin 6, (0x0A#8 : SeatSet).getLsbD i.val = true ∧ seated.claim (.seat i) ≠ ⟨some 4, (tag 4 6).code⟩ ∧
      (seated.claim (.seat i)).holder ≠ none) ∧
    (∀ i : Fin 6, (0x02#8 : SeatSet).getLsbD i.val = true → (pic0.claim (.seat i)).holder = none) := by decide +kernel

def closing0 : Picture := { pic0 with claims := pic0.claims.set .close ⟨some 0, 12⟩ }
def ended : Picture := { pic0 with claims := pic0.claims.set .shift ⟨none, 0⟩ }

theorem test_met_shift_frames : InServiceHead ended 0 ∧ (ended.claim .shift).holder = none ∧ (pic0.claim .shift).holder ≠ none ∧
    (pic0.claim .close).holder = none ∧ (pic0.claim .shift).tag.toNat = 12 ∧ (closing0.claim .close).holder = some 0 ∧
    (closing0.claim .close).holder ≠ some 3 ∧ (closing0.claim .close).tag.toNat = 12 :=
  ⟨⟨_, rfl, by decide⟩, rfl, by decide, rfl, rfl, rfl, by decide, rfl⟩

def party (t : Tag) (m : Mode) (q : SeatSet) (st : EntryHire) : HiringEntry := ⟨t, m, q, st, ⟨900, false⟩⟩
def aboard : Picture :=
  { pic0 with hirings := [party (tag 3 17) .shared 0x06#8 (.orphaned .running), party (tag 4 5) .shared 0x08#8 (.active .paying),
                          party (tag 0 2) .shared 0x01#8 (.active .held)] }

theorem test_met_hirings : (openChecks pic0 3 (tag 3 40) (some .shared) 0x06#8).find? (fun c => !c.2.1) ≠ none ∧
    (openChecks { pic0 with claims := (pic0.claims.set (.seat 1) ⟨some 3, (tag 3 40).code⟩).set (.seat 2) ⟨some 3, (tag 3 40).code⟩ }
      3 (tag 3 40) (some .shared) 0x06#8).find? (fun c => !c.2.1) = none ∧
    aboard.hiring (tag 3 17) = some (party (tag 3 17) .shared 0x06#8 (.orphaned .running)) ∧
    aboard.hiring (tag 4 5) = some (party (tag 4 5) .shared 0x08#8 (.active .paying)) ∧
    aboard.hiring (tag 0 2) = some (party (tag 0 2) .shared 0x01#8 (.active .held)) ∧ aboard.hiring (tag 3 18) = none ∧
    (party (tag 3 17) .shared 0x06#8 (.orphaned .running)).isOrphan = true ∧ aboard.headIn = true ∧
    { aboard with roster := [entry 3 .bay] }.headIn = false := by decide +kernel

def joinW (j : Join) : Work := { w0 with join := j }
def part0 : SnapPart := ⟨200, 200, .roster pic0.roster⟩
def part1 : SnapPart := ⟨200, 200, .words pic0.claims pic0.shift pic0.digest⟩
def part2 : SnapPart := ⟨200, 200, .hirings pic0.hirings⟩
def assembling (l : List SnapPart) : Join := { Join.init with asked := true, limit := some 10500000, parts := l, answerer := some 0 }
def foundCore : Core := coreAt 3 .bay .founding
def foundW : Work := { w0 with sel := { w0.sel with picture := some (by' .join (.status statusIn)) } }
/-- The vehicle as a node that is not in it sees it: HEAD 0 and BAY 4. -/
def others : Picture := { pic0 with roster := [entry 0 .head, entry 4 .bay] }
def partsOf (p : Picture) : List SnapPart := [⟨p.seq, p.seq, .roster p.roster⟩, ⟨p.seq, p.seq, .words p.claims p.shift p.digest⟩]
def lastPart (p : Picture) : SnapPart := ⟨p.seq, p.seq, .hirings p.hirings⟩

theorem test_met_joining : joinCore.node = .joining ∧ (4 : Station) ≠ joinCore.me ∧ Join.init.asked = false ∧
    (assembling []).asked = true ∧ (assembling []).caught.length < 16 ∧ statusIn.state = some .inService ∧
    16 ≤ { assembling [] with caught := List.replicate 16 ⟨4, .drop 9, 0⟩ }.caught.length ∧
    foundCore.node = .founding ∧ (foundW.sel.waiting? .join).isSome = true ∧ (2 : Station) < foundCore.me := by decide +kernel

theorem test_met_snapshots : (head w0).node.sends 4 .snapshotAsk = false ∧ w0.join.serving = none ∧ answers headCore = true ∧
    answers bayCore = false ∧ { Join.init with serving := some ⟨4, pic0, 0⟩ }.serving ≠ none ∧
    part0.content.no = (assembling []).parts.length ∧ part1.content.no ≠ (assembling []).parts.length ∧
    (assembling [part0]).parts.length < 2 ∧
    (assemble (assembling (partsOf others ++ [lastPart others]))).isSome = true ∧ others.declared 3 = false ∧
    (assemble (assembling [part0, part1, { part2 with line := 201 }])).isNone = true ∧ pic0.declared 3 = true ∧
    others.otherHead 2 false = true ∧ { others with roster := [entry 4 .bay] }.otherHead 2 false = false := by decide +kernel

theorem test_met_join_timers : (joinW { Join.init with detached := some 11000000 }).join.detached = some 11000000 ∧
    (joinW { Join.init with listen := some 10500000 }).join.listen = some 10500000 ∧
    (joinW { Join.init with reask := some 11000000 }).join.reask = some 11000000 ∧
    (joinW (assembling [])).join.limit = some 10500000 ∧
    ((assembling []).parts = [] ∧ (∀ e, (assembling []).evidence = some e → ms 2500 < 10500000 - e) ∧
      ∀ e ∈ (assembling []).heard, joinCore.me < e.1) ∧
    (assembling [part0]).parts ≠ [] ∧
    ({ Join.init with heard := [(4, 9000000)] }.heard.find? fun e => e.1 == (4 : Station)) = some (4, 9000000) := by
  refine ⟨rfl, rfl, rfl, rfl, ⟨rfl, ?_, ?_⟩, by decide, rfl⟩
  · intro e h; cases h
  · intro e h; cases h

def freeSlotW : Work := w0
def runW : Work := slotW (slot0 .running)
def payW : Work := slotW { slot0 .paying with fare := 880, subtotals := [(1, 880)] }
def newW : Work := slotW { slot0 .running with distance := 0, waiting := 0, fare := 300, subtotals := [(1, 300)] }

theorem test_met_hire_commands : InServiceHead bayCore.view 0 ∧
    Obeys bayCore freeSlotW (.start 0x06#8 (some .shared)) ∧ Obeys bayCore runW (.stop (tag 3 40)) ∧
    Obeys bayCore runW (.hold (tag 3 40)) ∧ Obeys bayCore (slotW (slot0 (.held .command))) (.resume (tag 3 40)) ∧
    Obeys bayCore newW (.cancel (tag 3 40)) ∧ Obeys bayCore payW (.unpaid (tag 3 40)) ∧
    Obeys bayCore payW (.extra (tag 3 40) 1) ∧ Obeys bayCore runW (.extra (tag 3 40) 8) ∧
    Obeys bayCore payW (.cash (tag 3 40) 1) ∧ Obeys bayCore payW (.cash (tag 3 40) 999999) ∧ payW.ret.slot.remaining = 880 := by
  refine ⟨⟨_, rfl, by decide⟩, ?_, ⟨⟨by decide, rfl⟩, .inl rfl⟩, ⟨⟨by decide, rfl⟩, rfl⟩,
    ⟨⟨by decide, rfl⟩, ⟨_, rfl⟩, by decide +kernel⟩, ⟨⟨by decide, rfl⟩, .inl rfl, rfl, rfl, rfl⟩, ⟨⟨by decide, rfl⟩, rfl, rfl⟩,
    ⟨⟨by decide, rfl⟩, .inr rfl, by decide, by decide, by decide, by decide, rfl, rfl⟩,
    ⟨⟨by decide, rfl⟩, .inl (.inl rfl), by decide, by decide, by decide, by decide, rfl, rfl⟩,
    ⟨⟨by decide, rfl⟩, rfl, rfl, by decide, by decide⟩, ⟨⟨by decide, rfl⟩, rfl, rfl, by decide, by decide⟩, by decide⟩
  exact ⟨rfl, by decide, by decide, by decide, by decide +kernel, by decide +kernel, by decide +kernel, by decide +kernel⟩

theorem test_met_hire_refusals : ¬InServiceHead bayCore.view 4 ∧ (coreAt 3 .bay .listener).serving = true ∧
    (coreAt 3 .bay .listener).node ≠ .inService ∧ ¬Obeys bayCore runW (.stop (tag 3 41)) ∧
    ¬Obeys bayCore runW (.start 0x06#8 (some .shared)) ∧ ¬Obeys bayCore payW (.cash (tag 3 40) 0) ∧ (4 : Station) ≠ bayCore.me := by
  refine ⟨?_, rfl, by decide, ?_, ?_, ?_, by decide⟩
  · rintro ⟨e, h, r⟩; cases h; exact absurd r.1 (by decide)
  · intro h; exact absurd h.1.2 (by decide)
  · intro h; exact absurd h.1 (by decide)
  · intro h; exact absurd h.2.2.2.1 (by decide)

theorem test_met_distance : bayCore.serving = true ∧ (bay runW).node.sends 0 (.distance 3 1203) = false ∧
    bayCore.view.hasRole 0 .head = true ∧ runW.ret.slot.state = .running ∧ runW.ret.slot.gapPending = false ∧
    payW.ret.slot.state ≠ .running ∧ payW.ret.slot.state.stands = true ∧ w0.atRest = true ∧ headCore.straps.role = .head ∧
    headCore.view.free .shift = false ∧ w0.ret.tally.tally.hired + 255 < 4294967296 ∧ bayCore.view.hasRole 4 .head = false :=
  ⟨rfl, by decide +kernel, by decide +kernel, rfl, rfl, by decide, rfl, rfl, rfl, rfl, by decide, by decide +kernel⟩

theorem test_met_time : (bay w0).node.sends 0 (.time 72000) = false ∧ 72000 < clockLimit ∧ bayCore.view.hasRole 0 .head = true ∧
    bayCore.view.hasRole 9 .gateway = true ∧ w0.ret.slot.state.stands = true ∧
    { runW.ret.slot with band := 1 }.band = runW.meter.band ∧
    (head w0).node.sends 9 (.time 72000) = false ∧ headCore.view.hasRole 9 .gateway = true ∧ w0.atRest = true ∧
    clockLimit ≤ 3155760000 ∧ bayCore.view.hasRole 4 .gateway = false ∧ bayCore.view.hasRole 4 .head = false ∧
    (w0.join.roles.find? fun r => r.1 == (9 : Station)) = none ∧ w0.join.firstTime = false := by decide +kernel

theorem test_met_second : runW.ret.clock = none ∧ { runW.ret with clock := some 3155759998 }.clock = some 3155759998 ∧
    3155759998 + 1 < clockLimit ∧ clockLimit ≤ 3155759999 + 1 ∧ runW.ret.slot.state = .running ∧ runW.meter.seen = false ∧
    payW.ret.slot.state ≠ .running ∧ (coreAt 0 .head .reset).node = .reset ∧ (coreAt 0 .head .reset).standby = true := by decide +kernel

def meterW (pulses acc : Nat) (o : Option Offer) : Work :=
  { w0 with meter := { w0.meter with pulses := pulses, accumulator := acc }, sel := { w0.sel with meter := o } }

theorem test_met_odometer : headCore.halt ≠ some .configFault ∧ headCore.straps.odometer = true ∧
    (meterW 0 0 none).meter.pulses + 1 < headCore.cfg.pulsesPerUnit ∧ headCore.cfg.pulsesPerUnit ≤ (meterW 1 0 none).meter.pulses + 1 ∧
    (meterW 1 254 none).meter.accumulator < 255 ∧ (meterW 1 0 none).meter.timeWaiting = none ∧
    (∃ o, (meterW 1 0 (some (offer (.distance 3 1203)))).sel.meter = some o ∧ o.frame = .distance 3 1203 ∧ o.attempts = 0) ∧
    (∃ o, (meterW 1 0 (some { offer (.distance 3 1203) with attempts := 1 })).sel.meter = some o ∧ 0 < o.attempts) ∧
    (∃ o, (meterW 1 0 (some (offer (.time 5)))).sel.meter = some o ∧ ∀ k r, o.frame = .distance k r → 255 ≤ k) ∧
    bayCore.straps.role = .bay := by
  refine ⟨by decide, rfl, by decide, by decide, by decide, rfl, ⟨_, rfl, rfl, rfl⟩, ⟨_, rfl, by decide⟩, ⟨_, rfl, ?_⟩, rfl⟩
  intro k r h; cases h

def alertW (a : Alerts) : Work := { w0 with alerts := a }
def stopped : AlertRec := { kind := .payRequested, origin := 3, tag := some (tag 3 40) }

theorem test_met_alerts : Quiescent w0 ∧ headCore.view.hasRole 3 .bay = true ∧ bayCore.view.hasRole 0 .head = true ∧
    headCore.view.hasRole 9 .bay = false ∧ w0.meter.quiet = false ∧ { w0.meter with quiet := true }.quiet = true ∧ w0.atRest = true ∧
    w0.alerts.mask = false ∧ w0.alerts.showing = none ∧ w0.alerts.showQueue = [] ∧
    (alertW { Alerts.init with mask := true }).alerts.mask = true ∧
    (alertW { Alerts.init with showing := some (⟨stopped, 1, false⟩, 12000000) }).alerts.showing = some (⟨stopped, 1, false⟩, 12000000) :=
  ⟨⟨rfl, by decide⟩, by decide +kernel, by decide +kernel, by decide +kernel, rfl, rfl, rfl, rfl, rfl, rfl, rfl, rfl⟩

/-- A call with the HEAD in a state. -/
def withHead (c : CallState) : Intercom := { Intercom.init with call := c, peer := some (.station 0) }

theorem test_met_calls : CallReady bayCore (callW Intercom.init) ∧ bayCore.view.present 0 .head = true ∧
    headCore.view.present 3 .bay = true ∧ bayCore.view.present 4 .head = false ∧ CallReady bayCore (callW (withHead .ringingOut)) ∧
    CallReady bayCore (callW (withHead .connected)) ∧ CallReady bayCore (callW (withHead .heldOut)) ∧
    (withHead .connected).talk = .quiet ∧ bayCore.view.free .floor = true ∧ { Intercom.init with mask := true }.mask = true ∧
    { withHead .connected with announce := true }.announce = true ∧ (withHead .heldIn).call = .heldIn :=
  ⟨⟨rfl, rfl, by decide⟩, by decide +kernel, by decide +kernel, by decide +kernel, ⟨rfl, rfl, by decide⟩, ⟨rfl, rfl, by decide⟩,
   ⟨rfl, rfl, by decide⟩, rfl, rfl, rfl, rfl, rfl⟩

/-- FLOOR held by a station for the callee. -/
def floorTo (s : Station) (t : BitVec 16) : Picture := { pic0 with claims := pic0.claims.set .floor ⟨some s, t⟩ }
def frame32 : List Byte := List.replicate 32 9

theorem test_met_voice : frame32.length = 32 ∧ (seeing bayCore (floorTo 0 3)).view.claim .floor = ⟨some 0, BitVec.ofNat 16 3⟩ ∧
    (bay w0).node.sends 0 (.voice .all frame32) = false ∧ (bayCore.view.claim .floor).holder ≠ some 0 ∧
    (callW { withHead .connected with playing := some frame32, playout := .playing }).ic.playing = some frame32 ∧
    (callW { withHead .connected with talk := .talking }).ic.talk = .talking ∧
    { withHead .connected with filling := List.replicate 31 9 }.filling.length = 31 ∧
    (seeing bayCore (floorTo 3 0)).view.holds .floor 3 = true ∧ w0.sel.busy .voice = false ∧
    { w0.sel with voice := some { offer (.voice .all frame32) with attempts := 1 } }.busy .voice = true := by decide +kernel

theorem test_met_call_timers : (callW { withHead .ringingOut with ring := some 12000000 }).ic.ring = some 12000000 ∧
    CallReady bayCore (callW { withHead .ringingOut with ring := some 12000000 }) ∧
    (callW { withHead .connected with talkLimit := some 12000000 }).ic.talkLimit = some 12000000 ∧
    (let w := callW { Intercom.init with busy := some 12000000, talkBusy := some 12500000 }
     CallQuiet w ∧ w.ic.busy = some 12000000 ∧ ∀ b, w.ic.talkBusy = some b → 12000000 ≤ b) ∧
    (let w := callW { Intercom.init with talkBusy := some 12000000 }
     CallQuiet w ∧ w.ic.talkBusy = some 12000000 ∧ ∀ e, w.ic.busy = some e → 12000000 ≤ e) := by
  refine ⟨rfl, ⟨rfl, rfl, by decide⟩, rfl, ⟨⟨rfl, by decide⟩, rfl, ?_⟩, ⟨rfl, by decide⟩, rfl, ?_⟩
  · intro b h; cases h; decide
  · intro e h; cases h

def cardRet (t : TxnState) : CardRet :=
  { CardRet.cold with txn := t, reqSeq := 5, record := { TxnRec.cleared with tag := tag 3 40, amount := 880, seq := 5, token := List.replicate 16 7 } }
def txnW (t : TxnState) : Work := cardW { slot0 .paying with fare := 880, subtotals := [(1, 880)] } (cardRet t)
def timed (k : Card) (w : Work) : Work := { w with card := k }
def haltCore : Core := { coreAt 3 .bay .halted with halt := some .duplicateStation }

theorem test_met_cards : bayCore.node.started = true ∧ (txnW .armed).ret.slot.state.stands = true ∧ (txnW .armed).ret.card.txn = .armed ∧
    (card0.entry ≠ none ∧ 1 ≤ card0.scheme ∧ card0.scheme ≤ 15) ∧ { card0 with scheme := 0 }.scheme < 1 ∧
    { card0 with entry := none }.entry = none ∧ bayCore.view.lowest .gateway = some 9 ∧
    (seeing bayCore others).view.lowest .gateway = none ∧ w0.ret.card.txn ≠ .armed ∧ bayCore.node ≠ .halted ∧
    (txnW .result).ret.card.txn = .result ∧ haltCore.node = .halted ∧ haltCore.node.started = true ∧
    (txnW .laneWait).ret.card.txn ≠ .idle ∧ w0.ret.card.txn = .idle := by decide +kernel

theorem test_met_card_timers : (timed { Card.init with hold := some 12000000 } (txnW .result)).card.hold = some 12000000 ∧
    (timed { Card.init with arm := some 12000000 } (txnW .armed)).card.arm = some 12000000 ∧
    (timed { Card.init with laneRun := some 12000000 } (txnW .laneWait)).card.laneRun = some 12000000 ∧
    (timed { Card.init with reply := some 12000000 } (txnW .authWait)).card.reply = some 12000000 ∧
    (let w := timed { Card.init with laneRetry := some 12000000, laneAsk := .untilRetry } (txnW .laneWait)
     w.card.laneRetry = some 12000000 ∧ w.ret.card.txn = .laneWait ∧ w.card.laneAsk = .untilRetry ∧ w.sel.has .card = false ∧
       w.sel.has .hiring = false ∧ w.card.fwd.busy = false ∧ w.atRest = true) ∧
    (timed { Card.init with fwdRetry := some 12000000 } w0).card.fwdRetry = some 12000000 ∧
    (bayCore.view.inService .gateway = true ∧ bayCore.view.free .lane = true ∧ bayCore.view.free .close = true) ∧
    { w0.ret.card with forward := [⟨.void, 4, tag 3 39, 500, [], none, Stamp.zero⟩] }.forward ≠ [] := by decide +kernel

def forwardOf (k : FwdKind) (n : BitVec 16) : FwdEntry := ⟨k, n, tag 3 40, 880, List.replicate 16 7, none, Stamp.zero⟩
/-- The two entries of one sequence of log 54. -/
def twoOf5 : List FwdEntry := [forwardOf .void 5, forwardOf .offline 5]
def late (n : BitVec 16) : Record := ⟨.lateApproval n (tag 3 40) 880 [], 3, Stamp.zero, false⟩

theorem test_met_auth_reply : bayCore.view.hasRole 9 .gateway = true ∧ (txnW .authWait).ret.card.txn = .authWait ∧
    (txnW .authWait).ret.card.record.seq = auth0.seq ∧ (txnW .authWait).ret.slot.state = .paying ∧
    (txnW .authWait).ret.card.record.seq ≠ { auth0 with seq := 4 }.seq ∧
    (let k : CardRet := { cardRet .idle with memory := [⟨5, tag 3 40, 880, List.replicate 16 7⟩] }
     (∀ e ∈ k.forward, e.seq ≠ auth0.seq) ∧ k.forward.length < 4 ∧
       (k.memory.find? fun x => x.seq == auth0.seq) = some ⟨5, tag 3 40, 880, List.replicate 16 7⟩) ∧
    bayCore.view.hasRole 4 .gateway = false ∧ auth0.approved = true ∧ { auth0 with approved := false }.approved = false ∧
    (twoOf5.find? fun x => x.seq == auth0.seq && x.kind == .offline) = some (forwardOf .offline 5) ∧
    ((∃ e ∈ [forwardOf .void 5], e.seq = auth0.seq) ∧ ∀ e ∈ [forwardOf .void 5], e.seq = auth0.seq → e.kind = .void) ∧
    (let l := [1, 2, 3, 4].map (forwardOf .void)
     (∀ e ∈ l, e.seq ≠ auth0.seq) ∧ 4 ≤ l.length ∧ { cardRet .idle with forward := l }.lateCount < 3 ∧
       3 ≤ { cardRet .idle with forward := l, hold := List.replicate 3 (late 6) }.lateCount) := by decide +kernel

def rec0 : Record := ⟨.orphanCleared (tag 3 17), 3, ⟨1000, false⟩, false⟩
def holdW : Work := { w0 with ret := { w0.ret with journal := { w0.ret.journal with headHold := [rec0] } } }
def intakeW : Work := { w0 with ret := { w0.ret with journal := { w0.ret.journal with intake := [⟨rec0, .headEvents, false⟩] } } }

theorem test_met_journal : bayCore.node.journalRuns = true ∧ holdW.ret.journal.intake.length < 4 ∧
    (∀ t ∈ holdW.ret.journal.intake, t.producer ≠ .headEvents) ∧ (handed .headEvents holdW).isSome = true ∧
    handed .card w0 = none ∧ intakeW.ret.journal.intake = [⟨rec0, .headEvents, false⟩] ∧
    (intakeW.ret.journal.half (halfOf intakeW.ret.journal.writePos)).state.waiting = false ∧ w0.ret.journal.intake = [] := by decide +kernel

/-- Half A READY with one record, B being filled. -/
def readyW (by' : Option Station) : Work :=
  { w0 with ret := { w0.ret with journal :=
    { w0.ret.journal with halfA := ⟨.ready, [⟨1, rec0⟩], by'⟩, halfB := ⟨.free, [], none⟩, writePos := 128, counter := 1 } } }
def draining : Picture := { pic0 with claims := pic0.claims.set .drain ⟨some 9, 9⟩ }

theorem test_met_drain : (draining.claim .drain).holder = some 9 ∧ ((readyW none).ret.journal.half .a).state = .ready ∧
    (readyW none).stream = none ∧ (pic0.claim .drain).holder ≠ some 9 ∧ ((readyW (some 9)).ret.journal.half .a).streamed = some 9 ∧
    ((readyW none).ret.journal.half .a).streamed ≠ some 9 ∧ (readyW (some 9)).atRest = true := by decide +kernel

def shiftW (s : Shift) : Work := { w0 with shift := s }
def answering : Shift :=
  { Shift.init with phase := .answering, number := 12, expected := [(3, none), (4, some .ready)], own := some .ready, limit := some 12000000 }

theorem test_met_closes : (shiftW answering).shift.phase = .answering ∧ answering.number = 12 ∧ (3, none) ∈ answering.expected ∧
    (∃ e ∈ answering.expected.map fun e => if e.1 = (4 : Station) then (e.1, some Readiness.ready) else e, e.2 = none) ∧
    (∀ e ∈ answering.expected.map fun e => if e.1 = (3 : Station) then (e.1, some Readiness.ready) else e, e.2 ≠ none) ∧
    Shift.init.phase ≠ .answering ∧ (shiftW answering).shift.limit = some 12000000 ∧
    (shiftW { answering with phase := .collecting, tallies := [] }).shift.phase = .collecting ∧
    (head w0).node.sends 3 (.tally 12 (TallyVals.zero (some 12))) = false ∧ headCore.view.hasRole 3 .bay = true ∧
    (shiftW { Shift.init with tallyEnd := some 12000000 }).shift.tallyEnd = some 12000000 ∧ headCore.node.journalRuns = true := by decide +kernel

theorem test_met_keys : CallReady bayCore w0 ∧ w0.keys.call = false ∧ w0.keys.talk = false ∧ w0.ic.announce = false ∧
    bayCore.view.lowest .head = some 0 ∧ (seeing bayCore { pic0 with roster := [entry 3 .bay] }).view.lowest .head = none ∧
    (withHead .ringingIn).answer = false ∧ { w0.keys with talk := true }.talk = true ∧ runW.ret.slot.isOpen ∧
    MayPayByCard payW ∧ (txnW .armed).ret.card.record.tag = (txnW .armed).ret.slot.tag ∧ ¬w0.ret.slot.isOpen ∧
    w0.ret.slot.state ≠ .paying ∧ w0.atRest = true ∧ w0.keys.quiet = false ∧ w0.keys.start = false ∧
    bayCore.cfg.passengerStart = true ∧ Obeys bayCore w0 (.start bayCore.cfg.seatMask (some .shared)) := by
  refine ⟨⟨rfl, rfl, by decide⟩, rfl, rfl, rfl, by decide +kernel, by decide +kernel, rfl, rfl, .inl rfl, ⟨rfl, rfl, by decide, by decide⟩,
    rfl, ?_, by decide, rfl, rfl, rfl, rfl, ?_⟩
  · rintro (h | ⟨r, h⟩) <;> cases h
  · exact ⟨rfl, by decide, by decide, by decide, by decide +kernel, by decide +kernel, by decide +kernel, by decide +kernel⟩


def busyCon : Work := { w0 with con := { Console.init with request := some .call } }

theorem test_met_assist_and_requests : ConsoleReady headCore w0 ∧ w0.sel.has .assist = false ∧ w0.con.request ≠ some .assistOff ∧
    (requestStates (.consoleStop (tag 3 40))).isSome = true ∧ (requestStates (.consoleUnknownRequest 0)).isSome = true ∧
    consoleKindKnown 0x16 = false ∧ { haltCore with straps := ⟨0, .head, true, true⟩ }.straps.role = .head ∧
    busyCon.con.request ≠ none ∧ (requestStates .consoleAnswer).isSome = true ∧ (coreAt 0 .head .joining).node.started = true ∧
    (coreAt 0 .head .joining).node ≠ .halted :=
  ⟨⟨rfl, rfl, rfl⟩, rfl, by decide, rfl, rfl, by decide, rfl, by decide, rfl, rfl, by decide⟩

/-- The HEAD's own party. -/
def ownParty (st : SlotState) : Slot := { slot0 st with tag := tag 0 2, fare := 880, subtotals := [(1, 880)] }

/-- A HEAD in service whose own entry is back to JOINING (03 R61). -/
def unheard : Core := seeing headCore { pic0 with roster := [{ entry 0 .head with state := .joining }, entry 3 .bay] }

theorem test_met_console_hirings : ConsoleReady headCore (slotW (ownParty .running)) ∧
    (∀ t, hireTag (.stop (tag 0 2)) = some t → t.home = headCore.me) ∧ InServiceHead headCore.view 0 ∧
    (ConsoleReady unheard (slotW (ownParty .running)) ∧ ¬InServiceHead unheard.view 0) ∧
    Obeys headCore (slotW (ownParty .running)) (.stop (tag 0 2)) ∧ ¬Obeys headCore w0 (.stop (tag 0 2)) ∧
    ((startChecks headCore (slotW (ownParty .running)) 0x06#8 (some .shared)).find? fun k => !k.1) = some (false, .wrongState) ∧
    (∀ t, hireTag (.stop (tag 3 40)) = some t → t.home = 3) ∧ BayInService pic0 3 ∧ ¬BayInService pic0 9 ∧
    aboard.hiring (tag 4 5) ≠ none ∧ w0.sel.command = none ∧ (relayW 0).sel.command ≠ none := by
  refine ⟨⟨rfl, rfl, rfl⟩, ?_, ⟨_, rfl, by decide⟩, ⟨⟨rfl, rfl, rfl⟩, ?_⟩, ⟨⟨by decide, rfl⟩, .inl rfl⟩, ?_, by decide +kernel, ?_,
    ⟨_, rfl, by decide⟩, ?_, by decide +kernel, rfl, by decide⟩
  · intro t h; cases h; rfl
  · rintro ⟨e, h, r⟩; cases h; exact absurd r.2 (by decide)
  · intro h; exact absurd h.1.1 (by decide)
  · intro t h; cases h; rfl
  · rintro ⟨e, h, r⟩; cases h; exact absurd r.1 (by decide)

theorem test_met_console_card : (slotW (ownParty .paying)).ret.slot.carries (tag 0 2) ∧ MayPayByCard (slotW (ownParty .paying)) ∧
    ¬MayPayByCard (slotW (ownParty .running)) ∧ ¬w0.ret.slot.carries (tag 0 2) :=
  ⟨⟨by decide, rfl⟩, ⟨rfl, rfl, by decide, by decide⟩, fun h => absurd h.2.1 (by decide), fun h => absurd h.1 (by decide)⟩

/-- A call with the BAY 3 in a state. -/
def withBay (c : CallState) : Intercom := { Intercom.init with call := c, peer := some (.station 3) }

theorem test_met_console_calls : CallReady headCore (callW Intercom.init) ∧ headCore.view.present 3 .bay = true ∧
    CallReady headCore (callW (withBay .connected)) ∧ (withBay .connected).talk = .quiet ∧ (withBay .connected).announce = false ∧
    { withBay .connected with peer := some .all }.peer = some .all ∧ (withBay .ringingIn).answer = false ∧
    headCore.view.present 9 .bay = false ∧ (callW Intercom.init).con.request = none :=
  ⟨⟨rfl, rfl, by decide⟩, by decide +kernel, ⟨rfl, rfl, by decide⟩, rfl, rfl, rfl, rfl, by decide +kernel, rfl⟩

theorem test_met_console_shift_and_time : ConsoleReady (seeing headCore ended) w0 ∧ (ended.claim .shift).holder = none ∧
    w0.shift.phase ≠ .collecting ∧ (shiftW { answering with phase := .collecting }).shift.phase = .collecting ∧
    (pic0.claim .close).holder = none ∧ w0.shift.phase = .none ∧ (closing0.claim .close).holder ≠ none ∧
    (⟨2000, 2, 29, 23, 59, 59⟩ : DateTime).real = true ∧ (⟨2100, 1, 1, 0, 0, 0⟩ : DateTime).real = false ∧
    (⟨2099, 2, 29, 0, 0, 0⟩ : DateTime).real = false ∧ aboard.hiring (tag 3 17) ≠ none ∧ w0.ic.talk = .quiet ∧
    w0.sel.has .intercom = false ∧ w0.card.fwd.busy = false ∧ w0.sel.has .card = false ∧ (txnW .armed).ret.card.txn ≠ .idle ∧
    (callW { withBay .connected with talk := .talking }).ic.talk ≠ .quiet :=
  ⟨⟨rfl, rfl, rfl⟩, rfl, by decide, rfl, rfl, rfl, by decide, by decide, by decide, by decide, by decide +kernel, rfl, rfl, rfl, rfl,
   by decide, by decide⟩

theorem test_met_console_link : Quiescent w0 ∧ w0.con.request = none ∧ w0.con.queue = [] ∧
    { w0.con with queue := [.result none] }.queue = .result none :: [] := ⟨⟨rfl, by decide⟩, rfl, rfl, rfl⟩

/-! ### Outcomes of this node's own frames -/

def sent (f : Frame) : Offer := { offer f with attempts := 1 }
/-- The frame is on the air. -/
def air (k : SlotId) (f : Frame) (w : Work) : Work := airW k (sent f) w
def mark (taken refused : Bool) : Marks := ⟨false, taken, refused⟩

/-- What a witness for a clause about an outcome shows: the frame on the air, and the rest of the hypotheses. -/
def airs (s : State) (k : SlotId) (f : Frame) (rest : Prop) : Prop := (∃ o, OnAir s.node k o ∧ o.frame = f) ∧ rest

def callingW : Work := air .call (.call 3 (.call false)) (callW { withBay .ringingOut with placed := true, list := [(3, .call false)] })
def answeringW : Work := air .call (.call 0 .answer) (callW { withHead .ringingIn with answer := true, list := [(0, .answer)] })
def auth : AuthReq := ⟨5, tag 3 40, 880, List.replicate 16 7, 4, .tap⟩
def authW (left : Time) : Work :=
  air .card (.authRequest 9 auth) { txnW .authWait with card := { Card.init with laneLeft := left } }
def fwdE : FwdEntry := ⟨.offline, 4, tag 3 39, 500, List.replicate 16 7, some (4, .tap), ⟨1000, false⟩⟩
/-- A FORWARD on the air; `turned`: its entry was begun when a forced close came. -/
def fwdW (turned : Bool) : Work :=
  air .bulk (.forward 9 fwdE) { cardW Slot.cold { cardRet .idle with forward := [fwdE] } with
    card := { Card.init with fwd := .sending, committed := if turned then some fwdE else none } }

/-- A FORWARD that waits in BULK, not begun. -/
def fwdWaitW : Work :=
  { cardW Slot.cold { cardRet .idle with forward := [fwdE] } with
    card := { Card.init with fwd := .sending }, sel := { w0.sel with bulk := some (offer (.forward 9 fwdE)) } }

theorem test_met_outcomes_of_calls :
    airs (on foundCore (airW .picture (by' .join (.status statusIn)) w0)) .picture (.pic (.status statusIn)) (foundCore.node = .founding) ∧
    airs (head callingW) .call (.call 3 (.call false)) (CallQuiet callingW ∧ callingW.ic.call = .ringingOut ∧ callingW.ic.placed = true ∧
      callingW.ic.peer = some (.station 3) ∧ headCore.straps.role = .head) ∧
    airs (bay answeringW) .call (.call 0 .answer) (CallQuiet answeringW ∧ answeringW.ic.talk = .quiet ∧ answeringW.ic.call = .ringingIn ∧
      answeringW.ic.answer = true ∧ answeringW.ic.peer = some (.station 0) ∧ bayCore.view.free .floor = true) ∧
    (∃ o, OnAir (head { callingW with sel := { callingW.sel with call := some { sent (.call 3 (.call false)) with purpose := .console } } }).node
      .call o ∧ o.purpose = .console) ∧ { Console.init with request := some .call }.request = some .call := by
  refine ⟨⟨⟨_, ⟨rfl, rfl, rfl, rfl⟩, rfl⟩, rfl⟩, ⟨⟨_, ⟨rfl, rfl, rfl, rfl⟩, rfl⟩, ⟨rfl, by decide⟩, rfl, rfl, rfl, rfl⟩,
    ⟨⟨_, ⟨rfl, rfl, rfl, rfl⟩, rfl⟩, ⟨rfl, by decide⟩, rfl, rfl, rfl, rfl, rfl⟩, ⟨_, ⟨rfl, rfl, rfl, rfl⟩, rfl⟩, rfl⟩

theorem test_met_outcomes_of_cards :
    airs (bay (authW (sec 3))) .card (.authRequest 9 auth) ((authW (sec 3)).ret.card.txn = .authWait ∧
      (authW (sec 3)).ret.card.record.seq = auth.seq ∧ (authW (sec 3)).card.laneLeft ≠ 0 ∧ (authW 0).card.laneLeft = 0) ∧
    airs (bay (fwdW true)) .bulk (.forward 9 fwdE) (bayCore.serving = true ∧ (fwdW true).card.fwd = .sending ∧
      (fwdW true).sel.has .card = false ∧ (fwdW true).card.committed = some fwdE ∧ (fwdW false).card.committed ≠ some fwdE ∧
      fwdE ∈ (fwdW true).ret.card.forward ∧ (fwdW true).ret.slot.state.stands = true ∧ (fwdW true).sel.has .hiring = false ∧
      (fwdW true).atRest = true) :=
  ⟨⟨⟨_, ⟨rfl, rfl, rfl, rfl⟩, rfl⟩, rfl, rfl, by decide, rfl⟩,
   ⟨⟨_, ⟨rfl, rfl, rfl, rfl⟩, rfl⟩, rfl, rfl, by decide, rfl, by decide, by decide +kernel, rfl, by decide, rfl⟩⟩

def payAlert : AlertRec := { kind := .payRequested, origin := 3, tag := some (tag 3 40) }
def alertF : Frame := .alert 0 .normal payAlert 0
def alertPart (tries : Nat) : Part := ⟨payAlert, .normal, .head, tries, true⟩
def alertsW (tries : Nat) : Work := air .alert alertF (alertW { Alerts.init with queue := [alertPart tries] })
/-- Half A streams to the gateway: its first record is on the air, or the end. -/
def streamW (ended : Bool) : Work :=
  let w := { w0 with
    ret := { w0.ret with journal := { w0.ret.journal with halfA := ⟨.streaming, [⟨1, rec0⟩, ⟨2, rec0⟩], none⟩, writePos := 128, counter := 2 } }
    stream := some ⟨.a, 9, if ended then 2 else 0, if ended then 2 else 0, ended⟩ }
  air .bulk (if ended then .journalEnd 9 .a 2 1 2 else .journalRecord 9 .a 0 ⟨1, rec0⟩) w
def readyF : Frame := .closeReady 0 12 .ready
def readyAirW : Work := air .command readyF (shiftW { Shift.init with answered := some ⟨12, false, 0⟩ })

theorem test_met_outcomes_of_alerts_and_streams :
    airs (bay (alertsW 0)) .alert alertF ((alertsW 0).atRest = true ∧
      ∀ x ∈ (alertsW 0).alerts.queue, ∀ b, x.dest = .bay b → bayCore.view.entry b ≠ none) ∧
    airs (bay (streamW false)) .bulk (.journalRecord 9 .a 0 ⟨1, rec0⟩) (bayCore.serving = true ∧
      Frame.isJournal (.journalRecord 9 .a 0 ⟨1, rec0⟩) = true ∧ (streamW false).stream = some ⟨.a, 9, 0, 0, false⟩) ∧
    airs (bay (streamW true)) .bulk (.journalEnd 9 .a 2 1 2) ((streamW true).stream = some ⟨.a, 9, 2, 2, true⟩) ∧
    airs (on (seeing bayCore closing0) readyAirW) .command readyF (readyAirW.shift.answered = some ⟨12, false, 0⟩ ∧
      (seeing bayCore closing0).view.claim .close = ⟨some 0, BitVec.ofNat 16 12⟩ ∧ readyAirW.sel.waitReady = none) := by
  refine ⟨⟨⟨_, ⟨rfl, rfl, rfl, rfl⟩, rfl⟩, rfl, ?_⟩, ⟨⟨_, ⟨rfl, rfl, rfl, rfl⟩, rfl⟩, rfl, rfl, rfl⟩,
    ⟨⟨_, ⟨rfl, rfl, rfl, rfl⟩, rfl⟩, rfl⟩, ⟨⟨_, ⟨rfl, rfl, rfl, rfl⟩, rfl⟩, rfl, rfl, rfl⟩⟩
  intro x h b e
  cases h with
  | head => cases e
  | tail _ h => cases h

def tallyW : Work := air .bulk (.tally 12 (TallyVals.zero (some 12)))
  (shiftW { Shift.init with tallySent := some (12, TallyVals.zero (some 12)), tallyEnd := some 12000000 })
def servingW (part : Nat) (p : SnapPart) : Work := air .bulk (.snapshot 4 p) (joinW { Join.init with serving := some ⟨4, pic0, part⟩ })
def reportW : Work := air .bulk (.fareReport 0 fare0) runW
def voiceW : Work := air .voice (.voice (.station 0) frame32)
  (callW { withHead .connected with talk := .talking, ready := some (.station 0, frame32) })

theorem test_met_other_outcomes :
    airs (bay tallyW) .bulk (.tally 12 (TallyVals.zero (some 12))) (tallyW.shift.tallySent = some (12, TallyVals.zero (some 12))) ∧
    airs (head (servingW 0 part0)) .bulk (.snapshot 4 part0) (headCore.serving = true ∧ part0.content.no = 0 ∧
      (servingW 0 part0).join.serving = some ⟨4, pic0, 0⟩) ∧
    airs (head (servingW 2 part2)) .bulk (.snapshot 4 part2) (part2.content.no = 2 ∧ (servingW 2 part2).join.serving = some ⟨4, pic0, 2⟩) ∧
    airs (bay reportW) .bulk (.fareReport 0 fare0) (reportW.ret.slot.state.stands = true) ∧
    airs (on (seeing bayCore (floorTo 3 0)) voiceW) .voice (.voice (.station 0) frame32) (voiceW.ic.ready = some (.station 0, frame32) ∧
      voiceW.ic.talk = .talking ∧ (seeing bayCore (floorTo 3 0)).view.holds .floor 3 = true) :=
  ⟨⟨⟨_, ⟨rfl, rfl, rfl, rfl⟩, rfl⟩, rfl⟩, ⟨⟨_, ⟨rfl, rfl, rfl, rfl⟩, rfl⟩, rfl, rfl, rfl⟩, ⟨⟨_, ⟨rfl, rfl, rfl, rfl⟩, rfl⟩, rfl, rfl⟩,
   ⟨⟨_, ⟨rfl, rfl, rfl, rfl⟩, rfl⟩, rfl⟩, ⟨⟨_, ⟨rfl, rfl, rfl, rfl⟩, rfl⟩, rfl, rfl, by decide +kernel⟩⟩

/-! ### The hiring controller and the tally unit at a notice -/

/-- A frame of the hiring controller on the air with the slot. -/
def hireW (s : Slot) (f : PicFrame) : Work := airW .picture { by' .hiring f with attempts := 1 } (slotW s)
def slotIn (st : SlotState) : Slot := { slot0 st with toGive := [1] }
def wins : Picture := { pic0 with claims := (pic0.claims.set (.seat 1) ⟨some 3, (tag 3 40).code⟩).set (.seat 2) ⟨some 3, (tag 3 40).code⟩ }
def set40 : PicFrame := .takeSet 0x06#8 (tag 3 40)
def open40 : PicFrame := .hireOpen (tag 3 40) (some .shared) 0x06#8 Stamp.zero
def back40 (st : HireState) : PicFrame := .hireReclaim (tag 3 40) (some st) (some .shared) 0x06#8 Stamp.zero
def prior40 : SlotState := .resuming .reclaiming .running

/-- The frame of the hiring controller is on the air with the slot in that state. -/
def Hires (p : Picture) (st : SlotState) (f : PicFrame) : Prop :=
  ∃ o, OwnHiringFrame (on (seeing bayCore p) (hireW (slotIn st) f)) (mark false false) o f ∧ (hireW (slotIn st) f).ret.slot.state = st

theorem hires (p : Picture) (st : SlotState) (f : PicFrame) : Hires p st f := by
  refine ⟨{ by' .hiring f with attempts := 1 }, ⟨⟨?_, rfl, rfl, rfl⟩, rfl, rfl, rfl, (fun h => nomatch h), rfl, ?_, rfl, ?_⟩, rfl⟩
  · rfl
  · intro x h; cases h
  · intro t h; cases h

theorem test_met_hiring_notices :
    (Hires pic0 (.starting .seats) set40 ∧ (pic0.apply 3 set40).2 = .won ∧ (wins.apply 3 set40).2 = .already ∧
      ((pic0.apply 4 (.takeSet 0x02#8 (tag 4 6))).1.apply 3 set40).2 = .busy) ∧
    (Hires wins (.starting .opening) open40 ∧ (wins.apply 3 open40).2 = .done ∧ (pic0.apply 3 open40).2 = .refused .noSeats ∧
      SeatSet.seats (slotIn .free).seats = [1, 2]) ∧
    Hires pic0 (.closing .removing) (.hireClose (tag 3 40)) ∧
    (Hires pic0 (.starting .returning) (.give (some (.seat 1))) ∧ Hires pic0 (.closing .releasing) (.give (some (.seat 1))) ∧
      Hires pic0 (.resuming .returning .paying) (.give (some (.seat 1))) ∧ (slotIn .free).toGive.filter (fun x => x != 1) = [] ∧
      (slotIn .free).toGive.filter (fun x => x != 2) = [1]) ∧
    (Hires wins prior40 (back40 .running) ∧ (wins.apply 3 (back40 .running)).2 = .done ∧
      (pic0.apply 3 (back40 .running)).2 = .refused .noSeats) ∧
    (MeetsAsHolder 4 (.drop 0) (bay runW).node ∧ pic0.headIn = true ∧ (pic0.apply 4 (.drop 0)).1.headIn = false ∧
      runW.ret.card.txn = .idle) := by
  refine ⟨⟨hires _ _ _, by decide +kernel, by decide +kernel, by decide +kernel⟩, ⟨hires _ _ _, by decide +kernel, by decide +kernel, by decide +kernel⟩,
    hires _ _ _, ⟨hires _ _ _, hires _ _ _, hires _ _ _, by decide +kernel, by decide +kernel⟩,
    ⟨hires _ _ _, by decide +kernel, by decide +kernel⟩, ⟨⟨rfl, by decide +kernel, by decide, ?_, by decide +kernel⟩, by decide +kernel, by decide +kernel, rfl⟩⟩
  intro st h; cases h

/-- A frame of the tally unit on the air. -/
def unitW (s : Shift) (q : Option Request) (f : PicFrame) : Work :=
  airW .picture { by' .tally f with attempts := 1 } { shiftW s with con := { Console.init with request := q } }

theorem ownShift (p : Picture) (s : Shift) (q : Option Request) (f : PicFrame) :
    OwnShiftFrame (on (seeing headCore p) (unitW s q f)) (mark false false) .picture { by' .tally f with attempts := 1 } f :=
  ⟨⟨rfl, rfl, rfl, rfl⟩, rfl, rfl, rfl, rfl⟩

def openF : PicFrame := .shiftOpen 13 77 ⟨5000, false⟩

theorem test_met_shift_notices :
    (MeetsAsHolder 0 openF (on (seeing bayCore ended) w0).node ∧ (ended.apply 0 openF).2 = .done ∧ w0.ret.card.txn = .idle ∧ w0.atRest = true) ∧
    (MeetsAsHolder 0 (.closeCall 12 true) (bay w0).node ∧ (bay w0).ringOk = true ∧ (pic0.apply 0 (.closeCall 12 true)).2 = .done) ∧
    (MeetsAsHolder 0 (.closeCommit 12 true) (on (seeing bayCore closing0) w0).node ∧ (closing0.apply 0 (.closeCommit 12 true)).2 = .done ∧
      (∃ o g, (fwdW false).sel.bulk = some o ∧ o.frame = .forward g fwdE ∧ 0 < o.attempts) ∧ w0.sel.bulk = none ∧
      (MeetsAsHolder 0 (.closeCommit 12 true) (on (seeing bayCore closing0) fwdWaitW).node ∧ fwdWaitW.ret.card.txn = .idle ∧
        fwdWaitW.card.fwd = .sending ∧ fwdWaitW.ret.card.forward = [fwdE] ∧ fwdWaitW.sel.bulk = some (offer (.forward 9 fwdE)))) ∧
    ((ended.apply 0 openF).2 = .done ∧ (pic0.apply 0 openF).2 = .refused .wrongState ∧
      (unitW Shift.init (some .shiftOpen) openF).con.request = some .shiftOpen) ∧
    ((on headCore (unitW Shift.init (some .shiftClose) (.closeCall 12 false))).ringOk = true ∧ (pic0.apply 0 (.closeCall 12 false)).2 = .done ∧
      (closing0.apply 0 (.closeCall 12 false)).2 = .refused .closing ∧ (pic0.roster.filter fun e => e.role == .bay && e.state == .inService) ≠ [] ∧
      (({ pic0 with roster := [entry 0 .head] } : Picture).roster.filter fun e => e.role == .bay && e.state == .inService) = []) ∧
    (closing0.apply 0 (.closeCommit 12 false)).2 = .done ∧ (closing0.apply 0 .closeAbandon).2 = .done := by
  refine ⟨⟨⟨rfl, by decide +kernel, by decide, ?_, by decide +kernel⟩, by decide +kernel, rfl, rfl⟩,
    ⟨⟨rfl, by decide +kernel, by decide, ?_, by decide +kernel⟩, by decide +kernel, by decide +kernel⟩,
    ⟨⟨rfl, by decide +kernel, by decide, ?_, by decide +kernel⟩, by decide +kernel, ⟨_, _, rfl, rfl, by decide⟩, rfl,
      ⟨rfl, by decide +kernel, by decide, ?_, by decide +kernel⟩, rfl, rfl, rfl, rfl⟩,
    ⟨by decide +kernel, by decide +kernel, rfl⟩, ⟨by decide +kernel, by decide +kernel, by decide +kernel, by decide +kernel, by decide +kernel⟩,
    by decide +kernel, by decide +kernel⟩ <;> · intro st h; cases h

/-! ### Further clauses -/

def announced : Intercom := { Intercom.init with call := .connected, peer := some (.station 0), announce := true }

theorem test_met_voice_forms : (seeing bayCore (floorTo 0 16)).view.claim .floor = ⟨some 0, 16⟩ ∧ CallReady (seeing bayCore (floorTo 0 16)) (callW announced) ∧
    (on (seeing bayCore (floorTo 0 16)) (callW announced)).node.sends 0 (.voice .all frame32) = false ∧ announced.announce = true ∧
    announcer (seeing bayCore (floorTo 0 16)) = announced.peerStation ∧ bayCore.view.free .floor = true ∧
    (List.replicate 30 (9 : Byte)).length < 31 ∧ joinCore.serving = false ∧ announced.talk = .quiet ∧
    { announced with playing := some frame32, playout := .draining }.jitter = [] :=
  ⟨rfl, ⟨rfl, rfl, by decide⟩, by decide +kernel, rfl, rfl, rfl, by decide, rfl, rfl, rfl⟩

theorem test_met_link : linkGood (linkMessage 0x16 []) = true ∧ linkGood ([] : List Byte) = false ∧ linkGood [0xA5] = false ∧
    ((linkMessage 0x16 []).foldl linkReceive []) = linkMessage 0x16 [] ∧ (List.replicate 100 (0 : Byte)).length = (100 : Byte).toNat ∧
    100 < (101 : Byte).toNat ∧ State.reset.node.core.node.started = false := by decide +kernel

theorem test_met_snapshot_copy : AnswersAsks headCore ∧ ¬AnswersAsks bayCore ∧ rosterOrdered headCore.view.roster = true ∧
    (∃ j q, Assembled j q ∧ q.declared 3 = false ∧ q.entry 3 = none) ∧
    (∀ q, ¬Assembled (assembling [part0, part1, { part2 with line := 201 }]) q) := by
  refine ⟨.inl ⟨rfl, ⟨_, .head _, rfl, .inl rfl, rfl⟩, fun e _ _ => Fin.zero_le _⟩, ?_, by decide +kernel,
    ⟨assembling (partsOf others ++ [lastPart others]), others,
      ⟨_, _, _, _, _, _, _, _, _, _, _, rfl, by decide +kernel, rfl, rfl, rfl, rfl⟩, by decide +kernel, by decide +kernel⟩, ?_⟩
  · rintro (⟨_, _, h⟩ | ⟨h, _⟩)
    · exact absurd (h (entry 0 .head) (.head _) ⟨.inl rfl, rfl⟩) (by decide)
    · cases h
  · rintro q ⟨_, _, _, _, _, _, _, _, _, _, _, h, _, _, _, e, g⟩
    cases h
    cases e
    exact absurd g (by decide +kernel)

theorem test_met_new_fields : { w0.sel with picture := some { by' .status (.status statusIn) with attempts := 1 } }.statusBegun = true ∧
    { hello4 with role := none }.role = none ∧ { statusIn with state := none }.state = none ∧
    (openChecks wins 3 (tag 3 40) none 0x06#8).find? (fun c => !c.2.1) = some (8, false, .soloConflict) ∧
    ((openChecks wins 3 (tag 3 40) (some .shared) 0x06#8).filter fun c => [2, 3, 4, 7, 8, 9].contains c.1).find? (fun c => !c.2.1) = none ∧
    w0.sel.has .status = false ∧ joinCore.node ≠ .inService ∧ (coreAt 3 .bay .listener).node = .listener ∧
    { haltCore with halt := some .configFault }.halt = some .configFault ∧
    { withBay .idle with talk := .ending }.talk = .ending ∧ { withBay .idle with talk := .ending }.list = [] := by decide +kernel

def flashW (dark : Time) : Work :=
  { w0 with sign := { Sign.init with assist := { Sign.init.assist with driven := true, dark := dark, since := some 9500000 } },
            meter := { w0.meter with secondAt := 9500000 } }

theorem test_met_flash : headCore.straps.sign = true ∧ (flashW 0).sign.test = none ∧ (flashW 0).sign.assist.driven = true ∧
    ¬sec 1 ≤ (flashW 0).sign.assist.dark + (max (flashW 0).now ((flashW 0).meter.secondAt + ms 500) - 9500000) ∧
    sec 1 ≤ (flashW 500000).sign.assist.dark + (max (flashW 500000).now ((flashW 500000).meter.secondAt + ms 500) - 9500000) ∧
    w0.sign.assist.driven = false := by decide +kernel

/-! ### The finish of a join, this node's frames of the join, its DISTANCE and TIME, the conditions of a second -/

/-- The announcing STATUS on the air, with the slot in that state. -/
def finishW (st : SlotState) : Work :=
  { airW .picture { by' .status (.status statusIn) with attempts := 1 } (slotW (slotIn st)) with
    join := { Join.init with announcing := .status } }
def back (p : Prior) : Work := finishW (.resuming .wait p)
/-- The vehicle with an entry of the slot's tag. -/
def entered : Picture := { pic0 with hirings := [party (tag 3 40) .shared 0x06#8 (.active .running)] }

theorem test_met_finish :
    (∃ o, OnAir (bay (back .running)).node .picture o ∧ o.frame = .pic (.status statusIn) ∧ o.producer = some .status) ∧
    (back .running).join.announcing = .status ∧ (back .running).sel.has .hiring = false ∧ (back .running).con.request = none ∧
    outranked bayCore bayCore.view (bayCore.view.apply 3 (.status statusIn)).1 3 = false ∧
    (coreAt 3 .bay .listener).serving = true ∧ (bayCore.view.hiring (tag 3 40)) = none ∧ entered.hiring (tag 3 40) ≠ none ∧
    (allSeats.filter fun i => (slotIn .free).seats.getLsbD i.val) = [1, 2] ∧ (slotIn .free).toGive = [1] ∧
    (∃ r, { slotIn (.resuming .wait (.closing .record)) with closing := some rec0 }.closing = some r) :=
  ⟨⟨_, ⟨rfl, rfl, rfl, rfl⟩, rfl, rfl⟩, rfl, by decide +kernel, rfl, by decide +kernel, rfl, by decide +kernel, by decide +kernel,
   by decide +kernel, rfl, ⟨_, rfl⟩⟩

/-- A call frame of a call that has gone on to this state. -/
def heldW (f : CallFrame) (c : CallState) : Work := air .call (.call 0 f) (callW { withHead c with list := [(0, f)], handed := true })
def helloW : Work := airW .picture { by' .join (.hello hello4) with attempts := 1 } w0
def askW : Work := airW .picture { sent .snapshotAsk with producer := some .join } w0
def unitsW : Work := air .meter (.distance 3 1203) w0
/-- The HEAD's TIME of a console setting, sent so many times. -/
def setW (attempts : Nat) : Work :=
  { airW .meter { offer (.time 72000) with purpose := .console, attempts := attempts } w0 with
    con := { Console.init with request := some .setTime } }

theorem test_met_own_frames :
    airs (bay (heldW .held .ringingIn)) .call (.call 0 .held) (CallQuiet (heldW .held .ringingIn) ∧
      (heldW .held .ringingIn).ic.talk = .quiet ∧ bayCore.view.free .floor = true ∧ (heldW .held .ringingIn).ic.announce = false ∧
      (heldW .held .ringingIn).ic.peer = some (.station 0) ∧ (heldW .held .idle).ic.call = .idle) ∧
    airs (bay (heldW .resumed .ringingIn)) .call (.call 0 .resumed) True ∧
    airs (bay (heldW (.ended .hangup) .idle)) .call (.call 0 (.ended .hangup)) True ∧
    airs (joiner helloW) .picture (.pic (.hello hello4)) (joinCore.node = .joining) ∧ airs (joiner askW) .picture .snapshotAsk True ∧
    (joiner askW).node.sends 3 .snapshotAsk = true ∧
    airs (head unitsW) .meter (.distance 3 1203) (headCore.serving = true ∧ headCore.view.hasRole 0 .head = true) ∧
    (head unitsW).node.sends 0 (.distance 3 1203) = true ∧ (head (setW 1)).node.sends 0 (.time 72000) = true ∧
    (∃ o, OnAir (head (setW 1)).node .meter o ∧ o.frame = .time 72000 ∧ o.purpose = .console) ∧
    airs (head (air .meter (.time 72000) w0)) .meter (.time 72000) ((offer (.time 72000)).purpose ≠ .console) ∧
    (∃ o, (setW 8).onAir = some (.meter, o) ∧ o.leaving = false ∧ o.dead = false ∧ 8 ≤ o.attempts ∧ o.frame = .time 72000 ∧
      o.purpose = .console) ∧ (setW 8).con.request = some .setTime :=
  ⟨⟨⟨_, ⟨rfl, rfl, rfl, rfl⟩, rfl⟩, ⟨rfl, by decide⟩, rfl, rfl, rfl, rfl, rfl⟩, ⟨⟨_, ⟨rfl, rfl, rfl, rfl⟩, rfl⟩, trivial⟩,
   ⟨⟨_, ⟨rfl, rfl, rfl, rfl⟩, rfl⟩, trivial⟩, ⟨⟨_, ⟨rfl, rfl, rfl, rfl⟩, rfl⟩, rfl⟩, ⟨⟨_, ⟨rfl, rfl, rfl, rfl⟩, rfl⟩, trivial⟩,
   by decide +kernel, ⟨⟨_, ⟨rfl, rfl, rfl, rfl⟩, rfl⟩, rfl, by decide +kernel⟩, by decide +kernel, by decide +kernel,
   ⟨_, ⟨rfl, rfl, rfl, rfl⟩, rfl, rfl⟩, ⟨⟨_, ⟨rfl, rfl, rfl, rfl⟩, rfl⟩, by decide⟩,
   ⟨_, rfl, rfl, rfl, by decide, rfl, rfl⟩, rfl⟩

/-- Drive quiet on, with so many seconds below Q so far; Q is 20 with this configuration. -/
def quietW (secs : Nat) : Work := { w0 with meter := { w0.meter with window := [4, 5], current := 6, quiet := true, quietSecs := secs } }
def quietCore : Core := { headCore with cfg := { cfg0 with driveQuietQ := 20 } }
/-- Sensor 1 has seen an occupant so many seconds; the last DISTANCE came at that moment. -/
def seatedW (count : Nat) (last : Option Time) : Work :=
  { w0 with hire := { w0.hire with watch1 := ⟨count, false⟩ }, meter := { w0.meter with lastDistance := last } }

theorem test_met_second_conditions :
    (71999 + 1) % 60 = 0 ∧ (71998 + 1) % 60 ≠ 0 ∧ headCore.node = .inService ∧ w0.sel.meter = none ∧
    (meterW 0 0 (some (offer (.time 5)))).sel.meter = some (offer (.time 5)) ∧ (offer (.time 5)).attempts = 0 ∧
    (∀ old, (offer (.distance 3 1203)).frame ≠ .time old) ∧
    quietCore.cfg.driveQuietQ ≤ ((quietW 0).meter.window.sum + ((quietW 0).meter.current + 5)) ∧
    ¬quietCore.cfg.driveQuietQ ≤ ((quietW 0).meter.window.sum + ((quietW 0).meter.current + 4)) ∧
    [6, 4, 5].sum < quietCore.cfg.driveQuietQ ∧ 15 ≤ [6, 4, 5].sum ∧ (quietW 3).meter.quietSecs + 1 < 5 ∧ 5 ≤ (quietW 4).meter.quietSecs + 1 ∧
    (allSeats.filter fun i => bayCore.cfg.seatMask.getLsbD i.val)[0]? = some 0 ∧
    (allSeats.filter fun i => bayCore.cfg.seatMask.getLsbD i.val)[1]? = some 1 ∧
    (allSeats.filter fun i => (0x02#8 : SeatSet).getLsbD i.val)[1]? = none ∧ bayCore.view.free (.seat 0) = true ∧
    wins.free (.seat 1) = false := by
  refine ⟨by decide, by decide, rfl, rfl, rfl, rfl, ?_, by decide, by decide, by decide, by decide, by decide, by decide, by decide +kernel,
    by decide +kernel, by decide +kernel, by decide +kernel, by decide +kernel⟩
  intro old h; cases h

theorem test_met_snapshot_forms : joinCore.node = .joining ∧ (4 : Station) ≠ joinCore.me ∧ w0.join.limit = none ∧
    foundCore.node = .founding ∧ (foundW.sel.waiting? .join).isSome = true ∧
    (airW .picture { by' .join (.status statusIn) with attempts := 1 } w0).sel.waiting? .join = none ∧
    (0x40#8 : SeatSet) &&& 0xC0#8 ≠ 0#8 ∧ (tag 3 0).seq = 0 := by decide +kernel

/-! ### The results of this node's own claim frames, and what the units read at a notice -/

/-- This node's own picture-changing frame on the air, with its producer and purpose, sent so many times. -/
def claimW (p : Producer) (u : Purpose) (n : Nat) (f : PicFrame) (w : Work) : Work :=
  airW .picture { by' p f with purpose := u, attempts := n } w

/-- A witness for a claim frame: its first attempt completing, and its eighth under way. -/
def Claims' (c : Core) (p : Producer) (u : Purpose) (f : PicFrame) (w : Work) : Prop :=
  (∃ o, OwnFrame (on c (claimW p u 1 f w)) (mark false false) p o f ∧ o.purpose = u) ∧
  ∃ o, LastAttempt (on c (claimW p u 8 f w)) p o f ∧ o.purpose = u

theorem claims' (c : Core) (p : Producer) (u : Purpose) (f : PicFrame) (w : Work) (hc : c.serving = true)
    (hl : w.line.collided = false) (hf : w.sel.fifo = []) : Claims' c p u f w := by
  refine ⟨⟨_, ⟨⟨rfl, hl, rfl, rfl⟩, rfl, rfl, rfl, hc, fun x h => ?_⟩, rfl⟩,
    ⟨_, ⟨rfl, rfl, rfl, Nat.le_refl 8, rfl, rfl, hc, fun x h => ?_⟩, rfl⟩⟩ <;>
  · change x ∈ w.sel.fifo at h
    rw [hf] at h
    cases h

def laneMine : Picture := { pic0 with claims := pic0.claims.set .lane ⟨some 3, 5⟩ }
/-- An attempt that waits for LANE, its TAKE on the air, with what else the engine does. -/
def laneW (ask : LaneAsk) : Work :=
  let w := timed { Card.init with laneRun := some 12000000, laneAsk := ask } (txnW .laneWait)
  { w with ret := { w.ret with card := { w.ret.card with record := { w.ret.card.record with gateway := some 9 } } } }
def waitAuthW : Work := { laneW .none with ret := { (laneW .none).ret with card := { (laneW .none).ret.card with txn := .authWait } } }
def stepW (f : FwdStep) (retry : Bool) : Work :=
  { cardW Slot.cold { cardRet .idle with forward := [fwdE] } with card := { Card.init with fwd := f, retry := retry } }
def forceW (q : Request) : Work := { w0 with card := { Card.init with force := true }, con := { Console.init with request := some q } }
def seizeLane : PicFrame := .seize (some .lane) 0
def giveLane : PicFrame := .give (some .lane)

theorem test_met_lane_claims :
    (Claims' bayCore .card (.attempt 5) takeLane (laneW .none) ∧ (laneW .none).ret.card.txn = .laneWait ∧
      (laneW .none).ret.card.record.seq = 5 ∧ (laneW .none).ret.card.record.gateway = some 9 ∧
      bayCore.view.entry 9 = some (entry 9 .gateway) ∧ bayCore.view.lowest .gateway = some 9 ∧ (laneW .none).card.laneAsk = .none ∧
      (laneW .none).card.fwd.busy = false ∧ (laneW .none).card.force = false ∧ (laneW .none).sel.card = none ∧
      (pic0.apply 3 takeLane).2 = .won ∧ (laneMine.apply 3 takeLane).2 = .already ∧ (rival.apply 3 takeLane).2 = .busy ∧
      (rival.apply 3 takeLane).1.free .lane = false ∧ bayCore.view.holds .lane 3 = false) ∧
    (Claims' bayCore .card .forward takeLane (stepW .taking false) ∧ (stepW .taking false).ret.card.forward = [fwdE] ∧
      (stepW .taking false).card.fwd = .taking ∧ MayForward bayCore (stepW .taking false) ∧
      ¬MayForward (seeing bayCore rival) (stepW .taking false)) ∧
    (Claims' bayCore .card .forward giveLane (stepW .giving true) ∧ (stepW .giving true).card.retry = true ∧
      (stepW .giving false).card.retry = false ∧ (stepW .giving false).ret.card.txn = .idle) ∧
    (Claims' headCore .card .console seizeLane (forceW .forceLane) ∧ Claims' headCore .card .console giveLane (forceW .forceLane) ∧
      (forceW .forceLane).card.force = true ∧ (forceW .forceLane).con.request = some .forceLane ∧
      (rival.apply 0 seizeLane).2 = .won ∧ (unheard.view.apply 0 seizeLane).2 = .busy) := by
  refine ⟨⟨claims' _ _ _ _ _ rfl rfl rfl, rfl, rfl, rfl, rfl, by decide +kernel, rfl, rfl, rfl, rfl, by decide +kernel, by decide +kernel,
      by decide +kernel, by decide +kernel, by decide +kernel⟩,
    ⟨claims' _ _ _ _ _ rfl rfl rfl, rfl, rfl, ⟨rfl, ⟨entry 9 .gateway, by decide +kernel, rfl, rfl⟩, rfl, rfl, rfl, by decide⟩, ?_⟩,
    ⟨claims' _ _ _ _ _ rfl rfl rfl, rfl, rfl, rfl⟩,
    ⟨claims' _ _ _ _ _ rfl rfl rfl, claims' _ _ _ _ _ rfl rfl rfl, rfl, rfl, by decide +kernel, by decide +kernel⟩⟩
  rintro ⟨_, _, h, _⟩
  exact absurd h (by decide)

def takeFloor (t : BitVec 16) : PicFrame := .take (some .floor) t
def giveFloor : PicFrame := .give (some .floor)
def seizeFloor : PicFrame := .seize (some .floor) 0
/-- A talk press in a call with the HEAD waits for its TAKE. -/
def pressW (held : Bool) : Work := callW { withHead .connected with keyHeld := held, talk := .asking, ask := .current }
def toAllW : Work :=
  { callW { Intercom.init with call := .connected, peer := some .all, outgoing := true, keyHeld := true, talk := .asking, ask := .current } with
    con := { Console.init with request := some .announce } }
def endingW (i : Intercom) : Work := callW { i with talk := .ending }

theorem talkAlone (c : Core) (w : Work) (h : (w.ret.slot.state.stands, w.ret.card.txn, w.ic.announce, w.ic.source) = (true, .idle, false, none)) :
    TalkAlone c w := by
  simp only [Prod.mk.injEq] at h
  exact ⟨h.1, h.2.1, h.2.2.1, fun y e => by rw [h.2.2.2] at e; cases e⟩

theorem test_met_floor_claims :
    (Claims' bayCore .intercom .plain (takeFloor 0) (pressW true) ∧ TalkAsks bayCore (pressW true) (.station 0) ∧
      TalkAsks bayCore (pressW false) (.station 0) ∧ (pressW false).ic.keyHeld = false ∧ (pressW false).sel.voice = none ∧
      (pic0.apply 3 (takeFloor 0)).2 = .won ∧ ((floorTo 3 0).apply 3 (takeFloor 0)).2 = .already ∧
      ((floorTo 4 0).apply 3 (takeFloor 0)).2 = .busy) ∧
    (Claims' headCore .intercom .console (takeFloor 16) toAllW ∧ TalkAsks headCore toAllW .all ∧ toAllW.ic.keyHeld = true ∧
      toAllW.con.request = some .announce ∧ (pic0.apply 0 (takeFloor 16)).2 = .won ∧ ((floorTo 3 0).apply 0 (takeFloor 16)).2 = .busy) ∧
    (Claims' bayCore .intercom .plain giveFloor (endingW (withHead .connected)) ∧ TalkAlone bayCore (endingW (withHead .connected)) ∧
      PeerPresent pic0 0 ∧ (endingW (withHead .connected)).ic.talk = .ending ∧ (endingW (withHead .connected)).ic.ask = .none ∧
      Claims' headCore .intercom .plain giveFloor (endingW Intercom.init) ∧ TalkAlone headCore (endingW Intercom.init) ∧
      (endingW Intercom.init).ic.call = .idle ∧ Claims' headCore .intercom .plain giveFloor (endingW toAllW.ic) ∧
      TalkAlone headCore (endingW toAllW.ic) ∧ (endingW toAllW.ic).ic.ask = .current ∧
      (endingW { toAllW.ic with ask := .none }).ic.peer = some .all) ∧
    (Claims' headCore .intercom .console seizeFloor (forceW .forceFloor) ∧ Claims' headCore .intercom .console giveFloor (forceW .forceFloor) ∧
      (forceW .forceFloor).con.request = some .forceFloor ∧ ((floorTo 3 0).apply 0 seizeFloor).2 = .won ∧
      (unheard.view.apply 0 seizeFloor).2 = .busy) :=
  ⟨⟨claims' _ _ _ _ _ rfl rfl rfl, ⟨talkAlone _ _ rfl, rfl, rfl, rfl, rfl, fun x h => by cases h; exact ⟨_, rfl, by decide⟩⟩,
      ⟨talkAlone _ _ rfl, rfl, rfl, rfl, rfl, fun x h => by cases h; exact ⟨_, rfl, by decide⟩⟩, rfl, rfl, by decide +kernel,
      by decide +kernel, by decide +kernel⟩,
   ⟨claims' _ _ _ _ _ rfl rfl rfl, ⟨talkAlone _ _ rfl, rfl, rfl, rfl, rfl, fun x h => by cases h⟩, rfl, rfl, by decide +kernel, by decide +kernel⟩,
   ⟨claims' _ _ _ _ _ rfl rfl rfl, talkAlone _ _ rfl, ⟨_, rfl, by decide⟩, rfl, rfl, claims' _ _ _ _ _ rfl rfl rfl, talkAlone _ _ rfl, rfl,
    claims' _ _ _ _ _ rfl rfl rfl, talkAlone _ _ rfl, rfl, rfl⟩,
   ⟨claims' _ _ _ _ _ rfl rfl rfl, claims' _ _ _ _ _ rfl rfl rfl, rfl, by decide +kernel, by decide +kernel⟩⟩

def orphanW : Work := { w0 with con := { Console.init with request := some (.clearOrphan (tag 3 17)) } }
def close17 : PicFrame := .hireClose (tag 3 17)
def takeAssist : PicFrame := .take (some .assist) 0
def giveAssist : PicFrame := .give (some .assist)
def assistedW : Work := { w0 with assist := true, con := { Console.init with request := some .assistOff } }
def assisted : Picture := { pic0 with claims := pic0.claims.set .assist ⟨some 0, 0⟩ }

theorem test_met_other_claims :
    (Claims' headCore .hiring .console close17 orphanW ∧ orphanW.con.request = some (.clearOrphan (tag 3 17)) ∧ orphanW.atRest = true ∧
      (aboard.apply 0 close17).2 = .done ∧ (pic0.apply 0 close17).2 = .refused .noSuchHiring) ∧
    Claims' headCore .assist .plain takeAssist assistedW ∧ Claims' headCore .assist .console giveAssist assistedW ∧
    assistedW.con.request = some .assistOff ∧ (assisted.apply 0 giveAssist).2 = .freed ∧ (pic0.apply 0 giveAssist).2 = .notFreed :=
  ⟨⟨claims' _ _ _ _ _ rfl rfl rfl, rfl, rfl, by decide +kernel, by decide +kernel⟩, claims' _ _ _ _ _ rfl rfl rfl,
   claims' _ _ _ _ _ rfl rfl rfl, rfl, by decide +kernel, by decide +kernel⟩

def dropGate : PicFrame := .drop 9

/-- A frame that another station sends at a holder that it neither drops nor duplicates. -/
theorem meets (c : Core) (w : Work) (src : Station) (f : PicFrame) (hc : c.serving = true) (hs : (on c w).node.sends src (.pic f) = false)
    (hd : f ≠ .drop c.me) (hm : src ≠ c.me) (ho : outranked c c.view (c.view.apply src f).1 src = false) :
    MeetsAsHolder src f (on c w).node := ⟨hc, hs, hd, fun _ _ => hm, ho⟩

theorem test_met_notices :
    (MeetsAsHolder 0 dropGate (on (seeing bayCore laneMine) waitAuthW).node ∧ MovesRosterOrLane dropGate ∧
      waitAuthW.ret.card.txn = .authWait ∧ waitAuthW.ret.card.record.gateway = some 9 ∧ (laneMine.apply 0 dropGate).1.entry 9 = none ∧
      (laneMine.apply 0 dropGate).1.holds .lane 3 = true ∧ waitAuthW.card.fwd.busy = false ∧ waitAuthW.sel.has .card = false ∧
      MovesRosterOrLane seizeLane ∧ (laneMine.apply 0 seizeLane).1.holds .lane 3 = false) ∧
    (MeetsAsHolder 0 dropGate (bay (laneW .untilFree)).node ∧ (pic0.apply 0 dropGate).1.lowest .gateway = none ∧
      MeetsAsHolder 4 giveLane (on (seeing bayCore rival) (laneW .untilFree)).node ∧ (rival.apply 4 giveLane).1.lowest .gateway = some 9 ∧
      (rival.apply 4 giveLane).1.free .lane = true ∧ (laneW .untilFree).card.laneAsk = .untilFree) ∧
    (MeetsAsHolder 0 (takeFloor 16) (bay w0).node ∧ TalkAlone bayCore w0 ∧ (pic0.apply 0 (takeFloor 16)).1.claim .floor = ⟨some 0, 16⟩ ∧
      (pic0.apply 0 (takeFloor 16)).1.hasRole 0 .head = true) ∧
    (MeetsAsHolder 4 (.drop 0) (bay (callW (withHead .connected))).node ∧ (pic0.apply 4 (.drop 0)).1.entry 0 = none ∧
      (pic0.apply 4 (.drop 0)).1.free .floor = true ∧ MeetsAsHolder 0 (.hello { hello4 with role := some .head }) (bay (callW announced)).node ∧
      ((pic0.apply 0 (.hello { hello4 with role := some .head })).1.entry 0).map (fun e => e.state) = some .joining) ∧
    (MeetsAsHolder 9 (.give (some .drain)) (on (seeing bayCore draining) (streamW false)).node ∧
      (streamW false).stream = some ⟨.a, 9, 0, 0, false⟩ ∧ (draining.apply 9 (.give (some .drain))).1.holds .drain 9 = false) := by
  have hm : ∀ (c : Core) (w : Work) (src : Station) (f : PicFrame), c.serving = true → (on c w).node.sends src (.pic f) = false →
    f ≠ .drop c.me → src ≠ c.me → outranked c c.view (c.view.apply src f).1 src = false → MeetsAsHolder src f (on c w).node := meets
  refine ⟨⟨hm _ _ _ _ rfl (by decide +kernel) (by decide) (by decide) (by decide +kernel), .inl ⟨_, rfl⟩, rfl, rfl, by decide +kernel,
      by decide +kernel, rfl, rfl, .inr (.inr (.inr (.inr ⟨_, _, rfl⟩))), by decide +kernel⟩,
    ⟨hm _ _ _ _ rfl (by decide +kernel) (by decide) (by decide) (by decide +kernel), by decide +kernel,
      hm _ _ _ _ rfl (by decide +kernel) (by decide) (by decide) (by decide +kernel), by decide +kernel, by decide +kernel, rfl⟩,
    ⟨hm _ _ _ _ rfl (by decide +kernel) (by decide) (by decide) (by decide +kernel), talkAlone _ _ rfl, by decide +kernel, by decide +kernel⟩,
    ⟨hm _ _ _ _ rfl (by decide +kernel) (by decide) (by decide) (by decide +kernel), by decide +kernel, by decide +kernel,
      hm _ _ _ _ rfl (by decide +kernel) (by decide) (by decide) (by decide +kernel), by decide +kernel⟩,
    ⟨hm _ _ _ _ rfl (by decide +kernel) (by decide) (by decide) (by decide +kernel), rfl, by decide +kernel⟩⟩

theorem test_met_lane_lost :
    MeetsAsHolder 0 seizeLane (on (seeing bayCore laneMine) (stepW .taking false)).node ∧ (stepW .taking false).card.fwd = .taking ∧
    laneMine.holds .lane 3 = true ∧ (laneMine.apply 0 seizeLane).1.holds .lane 3 = false ∧
    MeetsAsHolder 0 dropGate (on (seeing bayCore laneMine) (stepW .sending false)).node ∧ (stepW .sending false).card.fwd = .sending ∧
    (laneMine.apply 0 dropGate).1.inService .gateway = false ∧ (stepW .sending false).sel.has .card = false :=
  ⟨meets _ _ _ _ rfl (by decide +kernel) (by decide) (by decide) (by decide +kernel), rfl, by decide +kernel, by decide +kernel,
   meets _ _ _ _ rfl (by decide +kernel) (by decide) (by decide) (by decide +kernel), rfl, by decide +kernel, rfl⟩

/-! ## One step each, with the numbers of the spec's worked examples -/

/-- The vehicle of 01 section 1.7. -/
def pic17 : Picture where
  roster := pic0.roster
  claims := (((pic0.claims.set .floor ⟨some 3, 0⟩).set (.seat 1) ⟨some 3, (tag 3 17).code⟩).set (.seat 2) ⟨some 3, (tag 3 17).code⟩).set
    (.seat 3) ⟨some 4, (tag 4 5).code⟩
  hirings := [party (tag 3 17) .shared 0x06#8 (.active .running), party (tag 4 5) .shared 0x08#8 (.active .held)]
  shift := pic0.shift
  digest := 7
  seq := 1040

def dropped17 : Picture := (pic17.apply 0 (.drop 3)).1
def back17 : Picture := (dropped17.apply 3 (.hello { hello4 with tag := some (tag 3 17) })).1
def in17 : Picture := (back17.apply 3 (.status statusIn)).1

/-- 01 section 1.7, from DROP(3) on. -/
theorem test_bay_dropped : (out (.drop 0 3) (on (seeing headCore pic17) w0)).core.pic = some dropped17 ∧ dropped17.seq = 1041 ∧
    dropped17.entry 3 = none ∧ dropped17.claim .floor = ⟨none, 0⟩ ∧ dropped17.claim (.seat 1) = ⟨some 3, (tag 3 17).code⟩ ∧
    dropped17.hiring (tag 3 17) = some (party (tag 3 17) .shared 0x06#8 (.orphaned .running)) ∧
    pic17.occupancy = 2 ∧ dropped17.occupancy = 1 := by decide +kernel

theorem test_orphan_announced : back17.seq = 1042 ∧ (back17.entry 3).map (fun e => (e.state, e.announced)) = some (.joining, some (tag 3 17)) ∧
    back17.apply 0 (.hireClose (tag 3 17)) = ({ back17 with seq := 1043 }, .refused .wrongState) ∧
    (dropped17.apply 0 (.hireClose (tag 3 17))).1.claim (.seat 1) = ⟨none, 0⟩ ∧
    in17.apply 3 (.takeSet 0x06#8 (tag 3 17)) = ({ in17 with seq := 1044 }, .already) := by decide +kernel

theorem test_reclaimed : let r := in17.apply 3 (.hireReclaim (tag 3 17) (some .running) (some .shared) 0x06#8 ⟨900, false⟩)
    r.2 = .done ∧ r.1.hiring (tag 3 17) = some (party (tag 3 17) .shared 0x06#8 (.active .running)) ∧
      (r.1.entry 3).map (fun e => e.announced) = some none ∧ r.1.occupancy = 2 := by decide +kernel

/-- 01 section 1.8: two bays contend for SEAT2, in both orders. -/
theorem test_contention : let a := pic0.apply 3 (.takeSet 0x02#8 (tag 3 18))
    let b := pic0.apply 4 (.takeSet 0x0A#8 (tag 4 6))
    a.2 = .won ∧ a.1.seq = 201 ∧ a.1.apply 4 (.takeSet 0x0A#8 (tag 4 6)) = ({ a.1 with seq := 202 }, .busy) ∧
      b.2 = .won ∧ b.1.claim (.seat 3) = ⟨some 4, (tag 4 6).code⟩ ∧
      b.1.apply 3 (.takeSet 0x02#8 (tag 3 18)) = ({ b.1 with seq := 202 }, .busy) := by decide +kernel

/-- 02 section 2.6: the ranks. -/
theorem test_ranks : rank 2 0 (.pic (.hireState (tag 2 1) (some .paying))) = 17 ∧ rank 2 2 (.pic (.hireState (tag 2 1) (some .paying))) = 31 ∧
    rank 4 15 (.call 0 (.call false)) = 20 ∧ rank 7 2 (.call 0 (.call false)) = 20 ∧ rank 4 2 (.call 0 (.call false)) = 17 ∧
    rank 7 4 (.call 0 (.call false)) = 18 ∧ rank 2 15 (.pic (.hireState (tag 2 1) (some .paying))) = 18 ∧
    rank 7 15 (.call 0 (.call false)) = 23 := by decide +kernel

/-- 02 section 2.6 at station 4: a misread source, OBJECT at the end of the frame. -/
theorem test_misread_source : (out (.frameSourceRead 2 4 false) (bay w0)).w.line.lastWinner = 15 ∧
    (out (.frameJudgedFailed { frame0 with complement := 4 } true) (bay w0)).w.line = { w0.line with mark := some .object, objections := 1, lastWinner := 15 } ∧
    (out (.frameJudgedFailed frame0 false) (bay { w0 with line := { w0.line with objections := 7 } })).core.node = .detached := by decide +kernel

theorem test_deferral : (out (.attemptStart (some 20)) (bay (roundW .command (offer .snapshotAsk)))).w.line.sending = true ∧
    (out (.attemptStart (some 15)) (bay (roundW .command (offer .snapshotAsk)))).w.line.round = false ∧
    (out .contentionRoundStart (head { roundW .bulk (offer (.fareReport 0 fare0)) with line := { w0.line with round := true } })).w.line.inHand = some .bulk ∧
    (out .lineIdle (head w0)).w.line.round = true := by decide +kernel

theorem test_attempts : (out .attemptFailed (head (relayW 7))).w.con.results = [] ∧
    (out .attemptFailed (head (relayW 8))).w.con.results = [some .lineFail] ∧
    (out (.frameOutcome ⟨false, true, false⟩) (head (relayW 1))).w.con.results = [none] ∧
    (out (.lineWaitLimitExpiry (.slot .command)) (head waitW)).w.con.results = [some .lineBusy] := by decide +kernel

/-- 02 section 2.7: units added to a DISTANCE not begun, then to the accumulator. -/
theorem test_distance_coalesces : let w (n : Nat) := { meterW 1 0 (some { offer (.distance 3 1203) with attempts := n }) with
        ret := { w0.ret with running := 1203 } }
    ((out (.odometerPulse 20 20) (head (w 0))).w.sel.meter.map fun o => o.frame) = some (.distance 4 1204) ∧
    ((out (.odometerPulse 20 20) (head (w 1))).w.sel.meter.map fun o => o.frame) = some (.distance 3 1203) ∧
    (out (.odometerPulse 20 20) (head (w 1))).w.meter.accumulator = 1 ∧
    (out (.odometerPulse 19 20) (head (w 0))).w.meter.pulses = 1 := by decide +kernel

theorem test_presence_and_silence : (out .presenceTimerExpiry (head waitW)).w.sel.has .status = true ∧
    (out (.silenceTimerExpiry 3) (head waitW)).w.store.dropList = [3] ∧
    (out (.unknownFrame 3 3 60 16) (head { waitW with store := { waitW.store with dropList := [3] } })).w.store.dropList = [] := by decide +kernel

/-- RESET keeps the retained area; a bad configuration halts; a first start is cold (03 R47 to R51). -/
theorem test_reset : (out (.reset .pin false) (head runW)).core.node = .reset ∧ (out (.reset .pin false) (head runW)).w.ret.slot = runW.ret.slot ∧
    (out (.reset .standbyLost true) (head runW)).w.ret.valid = false ∧
    (out (.resetEnd ⟨3, .bay, true, false⟩ none Keys.up) State.reset).core.halt = some .configFault := by decide +kernel

theorem test_cold_start : let n := out (.resetEnd ⟨3, .bay, true, false⟩ (some memory0) Keys.up) State.reset
    n.core.node = .joining ∧ n.core.cfg = cfg1 ∧ n.core.digest = 0x3df3#16 ∧ n.w.sel.has .join = true ∧
      n.w.sign.test = some 2000000 ∧ n.w.ret = Retained.cold := by
  have e : decodeConfig (some memory0) = some cfg1 := test_configuration_read
  simp only [out, exec, execResetEnd, onNode]
  unfold startNode
  simp only [e]
  decide +kernel

/-- 03 section 3.9: at 803.1 ms station 0 founds; at 802.1 ms station 4, which heard 0, waits 1 s. -/
theorem test_founding : let j (l : List (Station × Time)) := { assembling [] with limit := some 10803100, heard := l }
    (out .snapshotLimitExpiry (on (coreAt 0 .head .joining) (joinW (j [(3, 9900000), (4, 9900000)])))).core.node = .founding ∧
    (out .snapshotLimitExpiry (on (coreAt 4 .bay .joining) (joinW (j [(0, 9900000), (3, 9900000)])))).w.join.reask = some 11803100 := by decide +kernel

/-- 03 R53, R57, log 20: a limit with no part held keeps the catch-up list, and so does a founding that gives way; with a part held both go. -/
theorem test_catch_up_kept : let l : List Caught := List.replicate 16 ⟨4, .drop 9, 0⟩
    let j := { assembling [] with heard := [(0, 9900000)], caught := l }
    (out .snapshotLimitExpiry (joiner (joinW j))).w.join = { j with limit := none, reask := some 11500000 } ∧
    (out .snapshotLimitExpiry (joiner (joinW { j with parts := [part0] }))).w.join.caught = [] ∧
    (out (.snapshotAsk 2) (on foundCore { foundW with join := j })).w.join =
      { j with heard := [(0, 9900000), (2, 10000000)], limit := none, reask := some 11000000 } := by decide +kernel

theorem test_snapshot_adopted : let n := out (.snapshot 0 3 (lastPart others)) (joiner (joinW (assembling (partsOf others))))
    n.core.node = .inService ∧ n.core.pic = some others ∧ n.w.sel.has .join = true ∧ n.w.store.silence.map (fun x => x.station) = [0, 4] ∧
    (out (.snapshot 0 3 part2) (joiner (joinW (assembling [part0, part1])))).core.halt = some .duplicateStation := by decide +kernel

theorem test_snapshot_asked : (out (.snapshotAsk 4) (head w0)).w.join.serving = some ⟨4, pic0, 0⟩ ∧
    ((out (.snapshotAsk 4) (head w0)).w.sel.bulk.map fun o => o.frame) = some (.snapshot 4 part0) ∧
    (out (.snapshotAsk 4) (bay w0)).w.join.serving = none ∧ (out (.snapshotAsk 4) (joiner w0)).w.join.heard = [(4, 10000000)] := by decide +kernel

theorem test_join_timers : (out .detachedTimerExpiry (on (coreAt 3 .bay .detached) (joinW { Join.init with detached := some 11000000 }))).core.node = .joining ∧
    (out .listenTimerExpiry (joiner (joinW { Join.init with listen := some 10500000 }))).w.sel.has .join = true ∧
    (out .reaskTimerExpiry (joiner (joinW { Join.init with reask := some 10500000 }))).w.sel.has .join = true ∧
    (out (.heardEntryExpiry 4) (joiner (joinW { Join.init with heard := [(4, 9000000)] }))).w.join.heard = [] := by decide +kernel

theorem test_duplicates : (out (.status 3 statusIn) (bay w0)).core.halt = some .duplicateStation ∧
    (out (.hello 3 hello4) (bay w0)).w.sel.has .status = true ∧ (out (.drop 0 3) (bay w0)).core.node = .joining ∧
    (out (.status 0 statusIn) (on (seeing (coreAt 2 .head .inService) twoHeads) w0)).core.halt = some .duplicateHead := by decide +kernel

/-- The vehicle of 04 section 4.8, with 4:9 in a state. -/
def pic48 (st : HireState) : Picture :=
  { pic0 with hirings := [party (tag 3 40) .shared 0x06#8 (.active .running), party (tag 4 9) .shared 0x08#8 (.active st)] }
def core48 (st : HireState) : Core := seeing bayCore (pic48 st)
def clockAt (t : Nat) (band : Nat) (s : Slot) : Work :=
  { slotW s with meter := { Meter.init with band := band }, ret := { w0.ret with slot := s, clock := some t } }

/-- 04 section 4.8: DISTANCE(4) at occupancy 2, the waiting second before 20:00, DISTANCE(3) in band 2 at occupancy 1. -/
theorem test_distance_charged : let a := (out (.distance 0 4 1204) (on (core48 .running) (clockAt 71998 1 (slot0 .running)))).w.ret.slot
    a.fare = 1300 ∧ a.distance = 32 ∧
    (let b := (out (.distance 0 3 1207) (on (core48 .paying) (clockAt 72000 2 { slot0 .running with fare := 1302, band := 2, subtotals := [(1, 1302)] }))).w.ret.slot
     b.fare = 1452 ∧ b.subtotals = [(1, 1302), (2, 150)]) := by decide +kernel

theorem test_waiting_charged : let n := out (.oneSecondTick false false) (on (core48 .paying) (clockAt 71999 1 { slot0 .running with fare := 1300, subtotals := [(1, 1300)] }))
    n.w.ret.slot.fare = 1302 ∧ n.w.ret.slot.waiting = 13 ∧ n.w.ret.clock = some 72000 ∧ n.w.meter.band = 2 := by decide +kernel

theorem test_time_taken : (out (.time 0 72000) (bay w0)).w.ret.clock = some 72000 ∧ (out (.time 0 72000) (bay w0)).w.meter.band = 2 ∧
    (out (.time 4 72000) (bay w0)).w.ret.clock = none ∧ (out (.time 9 3155760000) (bay w0)).w.ret.clock = none ∧
    (out .standbyClockAdvance (on { coreAt 0 .head .reset with pic := none } { w0 with ret := { w0.ret with clock := some 7 } })).w.ret.clock = some 8 := by decide +kernel

/-- 05 section 5.9: the HIRE_OPEN of station 3, applied first, then refused behind a SOLO entry. -/
def seats59 : Picture :=
  { pic0 with seq := 502, claims := (((pic0.claims.set (.seat 1) ⟨some 3, (tag 3 40).code⟩).set (.seat 2) ⟨some 3, (tag 3 40).code⟩).set (.seat 3)
    ⟨some 4, (tag 4 12).code⟩) }
def opening59 : Work :=
  airW .picture { by' .hiring (.hireOpen (tag 3 40) (some .shared) 0x06#8 ⟨0, true⟩) with attempts := 1 }
    (slotW { Slot.cold with state := .starting .opening, tag := tag 3 40, mode := .shared, seats := 0x06#8, band := 1, start := ⟨0, true⟩ })

theorem test_hire_open : let n := out (.frameOutcome ⟨false, false, false⟩) (on (seeing bayCore seats59) opening59)
    n.w.ret.slot.state = .running ∧ n.w.ret.slot.fare = 300 ∧ n.core.view.seq = 503 ∧ n.core.view.hirings.length = 1 := by decide +kernel

theorem test_hire_open_refused : let p := { seats59 with hirings := [party (tag 4 12) .solo 0x08#8 (.active .running)], seq := 503 }
    let n := out (.frameOutcome ⟨false, false, false⟩) (on (seeing bayCore p) opening59)
    n.w.ret.slot.state = .starting .returning ∧ n.w.ret.slot.toGive = [1, 2] ∧ n.core.view.seq = 504 ∧
      n.w.sel.has .hiring = true := by decide +kernel

theorem test_start_key : let n := out (.keyStart true) (bay { w0 with ret := { w0.ret with lastSeq := 39 } })
    n.w.ret.slot.state = .starting .seats ∧ n.w.ret.slot.tag = tag 3 40 ∧ n.w.sel.has .hiring = true ∧
    (out (.hireCommandStart 0 4 0x08#8 (some .solo)) (on (coreAt 4 .bay .inService) { w0 with ret := { w0.ret with lastSeq := 11 } })).w.line.mark = some .taken := by decide +kernel

theorem test_hire_commands : (out (.hireCommandStop 0 3 (tag 3 40)) (bay runW)).w.ret.slot.state = .paying ∧
    (out (.hireCommandHold 0 3 (tag 3 40)) (bay runW)).w.ret.slot.state = .held .command ∧
    (out (.hireCommandResume 0 3 (tag 3 40)) (bay (slotW (slot0 (.held .headLost))))).w.ret.slot.state = .running ∧
    (out (.hireCommandExtra 0 3 (tag 3 40) 1) (bay runW)).w.ret.slot.extras = [(1, 150)] ∧
    (out (.hireCommandCash 0 3 (tag 3 40) 500) (bay payW)).w.ret.slot.remaining = 380 := by decide +kernel

theorem test_hire_closes : (out (.hireCommandCash 0 3 (tag 3 40) 1000) (bay payW)).w.ret.slot.state = .closing .removing ∧
    (out (.hireCommandCash 0 3 (tag 3 40) 1000) (bay payW)).w.ret.tally.tally.cash = 880 ∧
    (out (.hireCommandUnpaid 0 3 (tag 3 40)) (bay payW)).w.ret.tally.tally.unpaid = 880 ∧
    (out (.hireCommandCancel 0 3 (tag 3 40)) (bay newW)).w.ret.tally.tally.cancelled = 1 ∧
    (out (.hireCommandCancel 0 3 (tag 3 40)) (bay runW)).w.line.mark = some .refused := by decide +kernel

/-- 06 section 6.8, rows of the example. -/
theorem test_sign_rows : let party4 := [party (tag 4 12) .shared 0x08#8 (.active .running)]
    let p40 := { seats59 with hirings := party (tag 3 40) .shared 0x06#8 (.active .running) :: party4 }
    signOf headCore = (.forHire, none) ∧ signOf (seeing headCore seats59) = (.forHire, none) ∧ signOf (seeing headCore p40) = (.share, some 3) ∧
    signOf (seeing headCore (p40.apply 4 (.status { statusIn with lockout := true })).1) = (.suspended, none) ∧
    signOf (seeing headCore (p40.apply 0 (.drop 3)).1) = (.share, some 3) ∧
    signOf (seeing headCore ((p40.apply 0 (.drop 3)).1.apply 0 (.hireClose (tag 3 40))).1) = (.share, some 5) ∧
    signOf (seeing headCore (p40.apply 0 (.closeCall 12 false)).1) = (.offDuty, none) := by decide +kernel

theorem test_lamps : (out .lampTestEnd (head lampW)).w.sign.forHire.driven = true ∧ (out .lampTestEnd (head lampW)).w.sign.hired.driven = false ∧
    (out (.lampDarkTimeLimit .forHire) (head lampW)).w.sign.forHire.fault = true ∧
    (out (.lampCurrentSense .forHire true) (head lampW)).w.sign.forHire.since = none ∧
    (out .assistFlashPhase (head { lampW with sign := { lampW.sign with test := none, assist := ⟨true, true, 0, none, false, false⟩ } })).w.sign.assist.driven = false := by decide +kernel

/-- 07 section 7.8: PAY_REQUESTED is shown at 3 and deferred at 0. -/
def routed (c : Core) : Core := { c with cfg := { c.cfg with routes := List.replicate 24 ⟨.both, .normal⟩ } }

theorem test_pay_key : let n := out (.keyPay true) (on (routed bayCore) runW)
    n.w.ret.slot.state = .paying ∧ (n.w.alerts.showing.map fun x => x.1.alert.kind) = some .payRequested ∧
    (let m := out (.keyPay true) (on (routed bayCore) { payW with alerts := { Alerts.init with showing := some (⟨stopped, 1, false⟩, 12000000) } })
     m.w.ret.card.txn = .armed ∧ m.w.alerts.mask = true ∧ m.w.alerts.showing = none ∧ m.w.alerts.pending.map (fun i => i.alert.kind) = [.payRequested]) := by decide +kernel

theorem test_alert_deferred : let w := { w0 with meter := { w0.meter with quiet := true } }
    (out (.alert 3 0 .normal (some stopped) 0) (head w)).w.alerts.deferred = [⟨stopped, some 0⟩] ∧
    (out (.alert 3 0 .urgent (some stopped) 0) (head w)).w.alerts.deferred = [] ∧
    (out .alertShowExpiry (bay (alertW { Alerts.init with showing := some (⟨stopped, 1, false⟩, 12000000) }))).w.alerts.showing = none ∧
    (out (.fareReport 3 0 fare0) (bay w0)).w.line.mark = none ∧ (out (.fareReport 3 0 fare0) (head w0)).w.con.sending = some (.report (.fare 3 fare0)) := by decide +kernel

/-- 08 section 8.8: a call to a masked bay is held and rings when the mask clears. -/
theorem test_call_held : let n := out (.call 0 3 false) (bay (callW { Intercom.init with mask := true }))
    n.w.ic.call = .heldIn ∧ n.w.ic.list = [(0, .held)] ∧ n.w.line.mark = some .taken ∧
    (out (.callHeld 3 0) (head (callW (withBay .ringingOut)))).w.ic.call = .heldOut ∧
    (out (.callResumed 3 0) (head (callW (withBay .heldOut)))).w.ic.tone = some .ringback ∧
    (out (.callAnswer 3 0) (head (callW (withBay .ringingOut)))).w.ic.call = .connected := by decide +kernel

theorem test_calls_end : (out (.callEnd 0 3 .hangup) (bay (callW (withHead .connected)))).w.ic.call = .idle ∧
    (out .ringLimitExpiry (bay (callW { withHead .ringingIn with ring := some 12000000 }))).w.ic.list = [(0, .ended .noAnswer)] ∧
    (out .talkLimitExpiry (on (seeing bayCore (floorTo 3 0)) (callW { withHead .connected with talk := .talking, talkLimit := some 12000000 }))).w.ic.talk = .ending ∧
    (out .toneTimerExpiry (bay (callW { Intercom.init with busy := some 12000000 }))).w.ic.heard = none := by decide +kernel

theorem test_voice : let s := on (seeing bayCore (floorTo 0 3)) (callW (withHead .connected))
    (out (.voice 0 (.station 3) frame32) s).w.ic.playout = .filling ∧ (out (.voice 4 (.station 3) frame32) s).w.line.mark = some .refused ∧
    (let t := on (seeing bayCore (floorTo 3 0)) (callW { withHead .connected with talk := .talking, filling := List.replicate 31 9 })
     ((out (.voiceFrameComplete 9) t).w.sel.voice.map fun o => o.frame) = some (.voice (.station 0) frame32) ∧
       (out (.voiceSample 9) t).w.ic.filling = [])
    := by decide +kernel

theorem test_playout : let i := { withHead .connected with playing := some frame32, playout := .playing }
    (out .playoutFrameEnd (bay (callW i))).w.ic.playout = .filling ∧
    (out .playoutFrameEnd (bay (callW { i with jitter := [frame32] }))).w.ic.playing = some frame32 := by decide +kernel

theorem test_call_keys : (out (.keyCall true) (bay w0)).w.ic.call = .ringingOut ∧ (out (.keyCall true) (bay w0)).w.sel.call.isSome = true ∧
    (out .keyTalkPress (bay (callW (withHead .connected)))).w.ic.talk = .asking ∧
    (out .keyTalkRelease (bay { callW { withHead .connected with talk := .blocked, keyHeld := true } with keys := ⟨false, true, false, false, false⟩ })).w.ic.talk = .quiet ∧
    (out (.keyQuiet true) (bay w0)).w.alerts.mask = true := by decide +kernel

/-- 09 section 9.15: a payment in a tunnel. -/
def tunnel (t : TxnState) : Work :=
  let s := { slot0 .paying with fare := 1455, subtotals := [(1, 1455)] }
  cardW { s with attempts := if t = .armed then 0 else 1 }
    { cardRet t with reqSeq := if t = .armed then 117 else 118, offlineCount := 2,
                     record := { (cardRet t).record with amount := 1455, seq := if t = .armed then 0 else 118, scheme := 4 } }

theorem test_card_presented : let n := out (.cardPresented card0) (bay (tunnel .armed))
    n.w.ret.card.txn = .laneWait ∧ n.w.ret.card.record.seq = 118 ∧ n.w.ret.slot.attempts = 1 ∧
    (n.w.sel.picture.map fun o => o.frame) = some (.pic (.take (some .lane) 118)) ∧
    (out (.cardPresented { card0 with entry := none }) (bay (tunnel .armed))).w.ret.card.record.result = some (.declined .badCard) := by decide +kernel

theorem test_reply_limit : let n := out .replyLimitExpiry (bay (timed { Card.init with reply := some 12000000 } (tunnel .authWait)))
    n.w.ret.card.txn = .result ∧ n.w.ret.card.record.result = some .approvedOffline ∧ n.w.ret.card.offlineCount = 3 ∧
    n.w.ret.card.forward.map (fun e => (e.seq, e.amount)) = [(118, 1455)] ∧ n.w.ret.slot.card = 1455 ∧ n.w.ret.slot.offline = true ∧
    n.w.ret.slot.state = .closing .removing := by decide +kernel

theorem test_card_rests : (out .cardRemoved (bay (timed { Card.init with hold := some 12000000 } (txnW .result)))).w.ret.card.txn = .idle ∧
    (out .resultHoldExpiry (bay (timed { Card.init with hold := some 12000000 } (txnW .result)))).w.card.reader = [.idle] ∧
    (out .readerFault (bay (txnW .armed))).w.ret.slot.attempts = 1 ∧
    (out .armLimitExpiry (bay (timed { Card.init with arm := some 12000000 } (txnW .armed)))).w.ret.card.txn = .idle := by decide +kernel

theorem test_late_reply : let late := { auth0 with seq := 118 }
    (out (.authReply 9 3 late) (bay { w0 with ret := { w0.ret with card := { cardRet .idle with forward := [⟨.offline, 118, tag 3 40, 1455, [], some (4, .tap), Stamp.zero⟩] } } })).w.ret.card.forward = [] ∧
    (out (.authReply 9 3 auth0) (bay (txnW .authWait))).w.ret.card.record.result = some .approved ∧
    (out (.authReply 4 3 auth0) (bay (txnW .authWait))).w.line.mark = some .refused := by decide +kernel

/-- 10 section 10.7, with one record where the half is full. -/
theorem test_ring_moves : let n := out .ringRecordMove (bay intakeW)
    n.w.ret.journal.halfA = ⟨.filling, [⟨1, rec0⟩], none⟩ ∧ n.w.ret.journal.writePos = 1 ∧ n.w.ret.journal.counter = 1 ∧
    (out (.recordIntakeAccept .headEvents) (bay holdW)).w.ret.journal.halfA.recs = [] ∧
    (out (.recordIntakeAccept .headEvents) (head holdW)).w.ret.journal.halfA.recs = [⟨1, rec0⟩] ∧
    halfOf 127 = .a ∧ halfOf 128 = .b := by decide +kernel

theorem test_drain : let c := seeing bayCore draining
    (out (.journalRead 9 3 (some .a)) (on c (readyW none))).w.stream = some ⟨.a, 9, 0, 0, false⟩ ∧
    (out (.journalRead 9 3 (some .a)) (bay (readyW none))).w.line.mark = some .refused ∧
    (out (.journalRelease 9 3 (some .a)) (on c (readyW none))).w.line.mark = some .refused ∧
    (out (.journalRead 9 3 none) (on c (readyW none))).w.line.mark = some .refused ∧
    (out (.journalRelease 9 3 (some .a)) (on c (readyW (some 9)))).w.ret.journal.halfA = HalfRing.free := by decide +kernel

/-- 11 section 11.6: the limit with station 4 missing, forced; without force the close is abandoned. -/
theorem test_close_decided : let a : Shift := { answering with expected := [(3, some .ready), (4, none)], force := true }
    (out .closeAnswerLimitExpiry (head (shiftW a))).w.shift.decision = some (.closeCommit 12 true) ∧
    (out .closeAnswerLimitExpiry (head (shiftW { a with force := false }))).w.shift.decision = some .closeAbandon ∧
    (out (.closeReady 3 0 12 .ready) (head (shiftW answering))).w.shift.decision = some (.closeCommit 12 false) ∧
    (out (.closeCall 0 12 true) (bay w0)).w.shift.answered = some ⟨12, true, 0⟩ := by decide +kernel

def values (t : TallyVals) (hirings fares extras cash online offline : Nat) : TallyVals :=
  { t with shift := some 12, hirings := hirings, fares := fares, extras := extras, cash := cash, cardOnline := online, cardOffline := offline }

/-- 11 section 11.6: the summary of station 0's tally and station 3's. -/
theorem test_summary : let own := { values (TallyVals.zero none) 1 980 0 980 0 0 with hired := 3120, empty := 1870, seconds := 30600 }
    let w := { shiftW { answering with phase := .collecting, expected := [(3, none), (4, none)], tallies := [(3, values (TallyVals.zero none) 5 7340 200 2100 4000 1440)] }
      with ret := { w0.ret with tally := { w0.ret.tally with tally := own } } }
    let v := summaryOf w
    (v.sums.hirings, v.sums.fares, v.sums.extras, v.sums.cash, v.sums.cardOnline, v.sums.cardOffline) = (6, 8320, 200, 3080, 4000, 1440) ∧
    (v.sums.hired, v.sums.empty, v.sums.seconds) = (3120, 1870, 30600) ∧ v.sums.saturated = false ∧ v.missing = [4] ∧
    (out .tallyCollectLimitExpiry (head w)).w.shift.phase = .none := by decide +kernel

theorem test_tallies : (out (.tally 3 12 (TallyVals.zero (some 12))) (head (shiftW { answering with phase := .collecting }))).w.shift.tallies.length = 1 ∧
    (out (.tally 3 13 (TallyVals.zero (some 12))) (head (shiftW { answering with phase := .collecting }))).w.shift.tallies = [] ∧
    (out .tallyRetryWindowExpiry (bay (shiftW { Shift.init with tallyEnd := some 12000000 }))).w.shift.tallyEnd = none := by decide +kernel

theorem test_shift_frames : (out (.closeCommit 0 12 false) (on (seeing bayCore closing0) w0)).core.view.claim .shift = ⟨none, 0⟩ ∧
    (out (.closeAbandon 0) (on (seeing bayCore closing0) w0)).core.view.claim .close = ⟨none, 0⟩ ∧
    (out (.shiftOpen 0 13 77 ⟨5000, false⟩) (on (seeing bayCore ended) w0)).core.view.shift = some ⟨13, 77, ⟨5000, false⟩⟩ ∧
    (out (.shiftOpen 0 13 10000 ⟨5000, false⟩) (on (seeing bayCore ended) w0)).core.view.shift = ended.shift := by decide +kernel

theorem test_word_frames : (out (.take 3 (some .lane) 118) (head w0)).core.view.claim .lane = ⟨some 3, 118⟩ ∧
    (out (.give 4 (some .lane)) (on (seeing headCore rival) w0)).core.view.claim .lane = ⟨none, 0⟩ ∧
    (out (.seize 0 (some .lane) 0) (on (seeing bayCore rival) w0)).core.view.claim .lane = ⟨some 0, 0⟩ ∧
    (out (.take 3 none 0) (head w0)).core.view = { pic0 with seq := 201 } := by decide +kernel

theorem test_hiring_frames : (out (.takeSet 3 0x02#8 (tag 3 18)) (head w0)).core.view.claim (.seat 1) = ⟨some 3, (tag 3 18).code⟩ ∧
    (out (.hireState 4 (tag 4 9) (some .paying)) (on (core48 .running) (clockAt 71999 1 (slot0 .running)))).core.view.occupancy = 1 ∧
    (out (.hireClose 4 (tag 4 5)) (on (seeing headCore aboard) w0)).core.view.hiring (tag 4 5) = none ∧
    (out (.hireReclaim 3 (tag 3 17) (some .paying) (some .shared) 0x06#8 ⟨900, false⟩) (on (seeing headCore aboard) w0)).core.view.hiring (tag 3 17) =
      some (party (tag 3 17) .shared 0x06#8 (.active .running)) := by decide +kernel

theorem test_console_requests : (out (.consoleStop (tag 3 40)) (head w0)).w.con.request = some .hire ∧
    (out (.consoleCall (.station 3) false) (head w0)).w.ic.call = .ringingOut ∧ (out (.consoleCall .all false) (head w0)).w.con.request = some .announce ∧
    (out (.consoleShiftOpen 77) (on (seeing headCore ended) w0)).w.ret.tally.counter = 1 ∧
    (out (.consoleShiftClose true) (head w0)).w.shift.phase = .calling := by decide +kernel

theorem test_console_refusals : (out (.consoleStop (tag 3 40)) (head busyCon)).w.con.results = [some .busy] ∧
    (out (.consoleShiftOpen 77) (head w0)).w.con.results = [some .wrongState] ∧ (out (.consoleUnknownRequest 0x16) (head w0)).w.con.results = [some .wrongState] ∧
    (out (.consoleStop (tag 3 40)) (on (coreAt 0 .head .joining) w0)).w.con.results = [some .notInService] ∧
    (out (.consoleClearOrphan (tag 3 17)) (head w0)).w.con.results = [some .noSuchHiring] := by decide +kernel

theorem test_console_own_slot : (out (.consoleHold (tag 0 2)) (head (slotW (ownParty .running)))).w.ret.slot.state = .held .command ∧
    (out (.consoleCard (tag 0 2)) (head (slotW (ownParty .paying)))).w.ret.card.txn = .armed ∧
    (out (.consoleStartHire 0 0x01#8 (some .shared)) (head w0)).w.ret.slot.tag = tag 0 1 ∧
    (out (.consoleCash (tag 0 2) 880) (head (slotW (ownParty .paying)))).w.ret.slot.state = .closing .removing := by decide +kernel

theorem test_console_time_and_force : (out (.consoleSetTime ⟨2000, 1, 1, 20, 0, 0⟩) (head w0)).w.ret.clock = some 72000 ∧
    (out (.consoleSetTime ⟨2099, 2, 29, 0, 0, 0⟩) (head w0)).w.con.results = [some .wrongState] ∧
    (out (.consoleForceClaim .lane) (head w0)).w.card.force = true ∧ (out (.consoleForceClaim .floor) (head w0)).w.con.request = some .forceFloor ∧
    (out .consoleAssistOff (head { w0 with assist := true })).w.assist = false := by decide +kernel

theorem test_assist : (out .assistSwitchClose (head w0)).w.assist = true ∧ (out .assistSwitchClose (head w0)).w.sel.has .assist = true ∧
    (out .assistSwitchClose (bay w0)).w.assist = false ∧ (out .consoleMessageSent (head { w0 with con := { Console.init with sending := some (.result none) } })).w.con.sending = none ∧
    (out (.consoleMessageDiscard [0xA5]) (head { w0 with con := { Console.init with rx := [0xA5] } })).w.con.rx = [] := by decide +kernel

/-! ## One step each: outcomes, notices and the corners the log names -/

theorem test_call_outcomes : (out (.frameOutcome (mark true false)) (head callingW)).w.ic.tone = some .ringback ∧
    (out (.frameOutcome (mark false true)) (head callingW)).w.ic.busy = some 12000000 ∧
    (out (.frameOutcome (mark false true)) (head callingW)).w.ic.call = .idle ∧
    (out (.frameOutcome (mark false false)) (head callingW)).w.ic.heard = none ∧
    (out (.frameOutcome (mark true false)) (bay answeringW)).w.ic.call = .connected ∧
    (out (.frameOutcome (mark false true)) (bay answeringW)).w.ic.call = .idle := by decide +kernel

theorem test_card_outcomes : (out (.frameOutcome (mark true false)) (bay (authW (sec 3)))).w.card.reply = some 30000000 ∧
    (out (.frameOutcome (mark false true)) (bay (authW (sec 3)))).w.card.laneRun = some 13000000 ∧
    (out (.frameOutcome (mark false true)) (bay (authW 0))).w.ret.card.txn = .result ∧
    (out (.frameOutcome (mark true false)) (bay (fwdW false))).w.ret.card.forward = [] ∧
    (out (.frameOutcome (mark false true)) (bay (fwdW false))).w.ret.card.forward = [fwdE] ∧
    (out (.frameOutcome (mark false true)) (bay (fwdW true))).w.ret.card.forward = [] ∧
    (out (.frameOutcome (mark false true)) (bay (fwdW true))).w.ret.journal.halfA.recs.map RingRec.content = [⟨.unsentOffline fwdE, 3, ⟨0, true⟩, false⟩] := by decide +kernel

theorem test_alert_and_stream_outcomes : (out (.frameOutcome (mark true false)) (bay (alertsW 0))).w.alerts.queue = [] ∧
    (out (.frameOutcome (mark false false)) (bay (alertsW 0))).w.alerts.queue.length = 1 ∧
    (out (.frameOutcome (mark false true)) (bay (alertsW 0))).w.alerts.lost = 1 ∧
    (out (.frameOutcome (mark true false)) (bay (streamW false))).w.stream = some ⟨.a, 9, 1, 1, false⟩ ∧
    (out (.frameOutcome (mark true false)) (bay (streamW true))).w.ret.journal.halfA.streamed = some 9 ∧
    (out (.frameOutcome (mark false true)) (bay (streamW false))).w.ret.journal.halfA.state = .ready := by decide +kernel

theorem test_other_outcomes : (out (.frameOutcome (mark false false)) (bay tallyW)).w.shift.tallySent = none ∧
    (out (.frameOutcome (mark true false)) (head (servingW 0 part0))).w.join.serving = some ⟨4, pic0, 1⟩ ∧
    (out (.frameOutcome (mark false true)) (head (servingW 0 part0))).w.join.serving = none ∧
    (out (.frameOutcome (mark false true)) (bay reportW)).w.ret.slot.reportMark = true ∧
    ((out (.frameOutcome (mark true false)) (on (seeing bayCore (floorTo 3 0)) voiceW)).w.sel.voice.map fun o => o.attempts) = some 0 := by
  decide +kernel

def notice (p : Picture) (st : SlotState) (f : PicFrame) : Node :=
  out (.frameOutcome (mark false false)) (on (seeing bayCore p) (hireW (slotIn st) f))

theorem test_hiring_notices : (notice pic0 (.starting .seats) set40).w.ret.slot.state = .starting .opening ∧
    (notice wins (.starting .opening) open40).w.ret.slot.fare = 300 ∧
    (notice pic0 (.closing .removing) (.hireClose (tag 3 40))).w.ret.slot.toGive = [1, 2] ∧
    (notice pic0 (.closing .releasing) (.give (some (.seat 1)))).w.ret.slot.state = .free ∧
    ((notice pic0 (.closing .releasing) (.give (some (.seat 1)))).w.ret.slot.freed.map fun r => (r.state, r.fare)) = some (.free, 1180) ∧
    (notice wins prior40 (back40 .running)).w.ret.slot.state = .running ∧ (notice pic0 prior40 (back40 .running)).w.ret.slot.state = .paying ∧
    (out (.drop 4 0) (bay runW)).w.ret.slot.state = .held .headLost := by decide +kernel

theorem test_shift_notices : let open13 := out (.shiftOpen 0 13 77 ⟨5000, false⟩) (on (seeing bayCore ended) w0)
    let called := out (.frameOutcome (mark false false)) (on headCore (unitW Shift.init (some .shiftClose) (.closeCall 12 false)))
    open13.w.ret.tally.copy = some ⟨⟨13, 77, ⟨5000, false⟩⟩, true⟩ ∧ open13.w.ret.tally.tally = TallyVals.zero (some 13) ∧
    called.w.shift.phase = .answering ∧ called.w.shift.expected = [(3, none), (4, none)] ∧ called.w.con.results = [none] ∧
    (out (.closeCommit 0 12 false) (on (seeing bayCore closing0) w0)).w.shift.tallyEnd = some 15000000 ∧
    (out (.closeCommit 0 12 false) (on (seeing (coreAt 3 .bay .listener) closing0) w0)).w.shift.tallyEnd = none ∧
    (out (.frameOutcome (mark false false)) (on (seeing headCore closing0) (unitW answering none (.closeCommit 12 false)))).w.shift.phase = .collecting ∧
    (out (.frameOutcome (mark false false)) (on (seeing headCore closing0) (unitW answering none .closeAbandon))).w.shift.phase = .none := by
  decide +kernel

/-- Log 37: a HIRE_COMMAND of an unknown command word is REFUSED by its addressee. -/
theorem test_unknown_command_word : (Instr.unknownFrame 0 1 19 3).wellFormed = true ∧ (Instr.unknownFrame 0 1 14 3).wellFormed = false ∧
    (out (.unknownFrame 0 1 19 3) (bay w0)).w.line.mark = some .refused ∧ (out (.unknownFrame 0 1 19 4) (bay w0)).w.line.mark = none ∧
    (out (.unknownFrame 0 2 32 16) (bay w0)).w.line.mark = none := by decide +kernel

/-- Log 19: a START at a LISTENER is REFUSED with START_REFUSED. -/
theorem test_start_at_a_listener : let n := out (.hireCommandStart 0 3 0x06#8 (some .shared)) (on (routed (coreAt 3 .bay .listener)) w0)
    n.w.line.mark = some .refused ∧ n.w.ret.slot.state = .free ∧ (n.w.alerts.queue.map fun x => x.alert.kind) ≠ [] := by decide +kernel

/-- Log 39: a TAKE of FLOOR for a call that has ended is won for an announcement: it is given back first. -/
def staleW : Work :=
  airW .picture { by' .intercom (.take (some .floor) 3) with attempts := 1 }
    { callW { Intercom.init with call := .connected, peer := some .all, outgoing := true, keyHeld := true, talk := .asking, ask := .stale } with
      con := { Console.init with request := some .announce } }

theorem test_stale_take : let n := out (.frameOutcome (mark false false)) (head staleW)
    n.core.view.claim .floor = ⟨some 0, 3⟩ ∧ n.w.ic.talk = .asking ∧ n.w.sel.has .intercom = true ∧
    (n.w.sel.picture.map fun o => o.frame) = some (.pic (.give (some .floor))) := by decide +kernel

/-- Log 43: the receiver keeps a whole good message until the next byte. -/
theorem test_receiver : (out (.consoleByteGapExpiry [0xA5, 0x01]) (head w0)).w.con.rx = [] ∧
    (out (.consoleByteGapExpiry (linkMessage 0x16 [])) (head w0)).w.con.rx = linkMessage 0x16 [] ∧
    (out (.consoleMessageDiscard [0x00, 0xA5, 0x65]) (head w0)).w.con.rx = [] ∧
    (out (.consoleMessageDiscard [0xA5]) (head { w0 with con := { Console.init with rx := linkMessage 0x16 [] } })).w.con.rx = [0xA5] := by
  decide +kernel

theorem test_flash : (out .assistFlashPhase (head (flashW 0))).w.sign.assist.dark = 500000 ∧ (out .assistFlashPhase (head (flashW 0))).w.sign.assist.fault = false ∧
    (out .assistFlashPhase (head (flashW 500000))).w.sign.assist.fault = true := by decide +kernel

theorem test_status_owed : let begun := { w0 with sel := { w0.sel with picture := some { by' .status (.status statusIn) with attempts := 1 } } }
    (out (.hello 3 hello4) (bay begun)).w.store.statusOwed = true ∧ (out (.hello 3 hello4) (bay w0)).w.store.statusOwed = false := by decide +kernel

theorem test_announcement_voice : let s := on (seeing bayCore (floorTo 0 16)) (callW announced)
    (out (.voice 0 .all frame32) s).w.ic.playout = .filling ∧ (out (.voice 0 .all frame32) s).w.line.mark = none ∧
    (out .playoutFrameEnd (bay (callW { announced with playing := some frame32, playout := .draining }))).w.ic.call = .idle := by decide +kernel

/-- Log 39: a TAKE of an ended call that finds the floor taken is decided by key held; any win empties the jitter queue (08 R142). -/
def asksW (ask : FloorAsk) (c : CallState) (held : Bool) : Work :=
  airW .picture { by' .intercom (.take (some .floor) 0) with attempts := 1 }
    (callW { withHead c with keyHeld := held, talk := .asking, ask := ask, jitter := [frame32], playout := .draining })

theorem test_floor_asked : let lost (k : Bool) := out (.frameOutcome (mark false false)) (on (seeing bayCore (floorTo 4 0)) (asksW .stale .idle k))
    let won := out (.frameOutcome (mark false false)) (bay (asksW .current .connected false))
    (lost true).w.ic.talk = .blocked ∧ (lost true).w.ic.talkBusy = some 11000000 ∧ (lost true).w.ic.heard = some .busy ∧
    (lost false).w.ic.talk = .quiet ∧ (lost false).w.ic.heard = none ∧
    won.w.ic.talk = .ending ∧ won.w.ic.jitter = [] ∧ won.w.ic.playout = .stopped := by decide +kernel

/-- 08 R134: the CALL_END of an earlier call outlives the announcement that the HEAD's loss ends. -/
theorem test_call_end_always_goes : let w := callW { announced with list := [(0, .call false), (0, .ended .hangup)], handed := true }
    let n := out (.hello 0 { hello4 with role := some .head }) (on (seeing bayCore (floorTo 0 16)) w)
    n.w.ic.list = [(0, .call false), (0, .ended .hangup)] ∧
    (out (.hello 0 { hello4 with role := some .head }) (bay (callW { withHead .ringingOut with list := [(0, .call false), (0, .ended .hangup)], handed := true }))).w.ic.list =
      [(0, .call false)] := by decide +kernel

/-- 08 R144: a HEAD dropped while it holds FLOOR with no call tells the console. -/
theorem test_floor_lost_is_told : let n := out (.drop 3 0) (on (seeing headCore (floorTo 0 0)) w0)
    n.core.node = .joining ∧ ((n.w.con.sending.toList ++ n.w.con.queue).any fun m => match m with
      | .report (.call _) => true
      | _ => false) = true := by decide +kernel

/-- 06 R112: the overlay goes off in the lamp test on an assist lamp that is dark already: its dark time grows again. -/
theorem test_overlay_off_in_the_test :
    let lit := { pic0 with claims := pic0.claims.set .assist ⟨some 0, 0⟩ }
    let w := { w0 with sign := { Sign.init with test := some 12000000, overlay := true, assist := ⟨true, false, sec 1, none, true, true⟩ } }
    (out (.give 0 (some .assist)) (on (seeing bayCore lit) w)).w.sign.assist = ⟨true, false, 0, some 10000000, true, true⟩ := by decide +kernel

/-- 04 R74, R75, 05 R105: a HALTED node's mark clears; the fifth quiet second turns drive quiet off; the thirtieth sample raises the alert. -/
theorem test_second_conditions : (out (.oneSecondTick false false) (on haltCore { w0 with meter := { w0.meter with seen := true } })).w.meter.seen = false ∧
    (out (.oneSecondTick false false) (on quietCore (quietW 3))).w.meter.quiet = true ∧
    (out (.oneSecondTick false false) (on quietCore (quietW 4))).w.meter.quiet = false ∧
    (out (.oneSecondTick true false) (bay (seatedW 29 (some 9000000)))).w.hire.watch1 = ⟨30, true⟩ ∧
    (out (.oneSecondTick true false) (bay (seatedW 29 none))).w.hire.watch1 = ⟨29, false⟩ ∧
    (out (.oneSecondTick false false) (bay (seatedW 29 none))).w.hire.watch1 = ⟨0, false⟩ := by decide +kernel

theorem test_finish : (out (.frameOutcome (mark false false)) (bay (back .running))).w.ret.slot.state = .resuming .seats .running ∧
    (out (.frameOutcome (mark false false)) (bay (back .starting))).w.ret.slot.state = .resuming .returning .starting ∧
    (out (.frameOutcome (mark false false)) (on (seeing bayCore entered) (back .starting))).w.ret.slot.state = .resuming .removing .starting ∧
    (out (.frameOutcome (mark false false)) (bay (back (.closing .releasing)))).w.ret.slot.toGive = [1] ∧
    (out (.frameOutcome (mark false false)) (on (coreAt 3 .bay .listener) (back .running))).w.ret.slot.state = .resuming .wait .running := by decide +kernel

theorem test_own_frames : (out (.frameOutcome (mark false false)) (bay (heldW .held .ringingIn))).w.ic.call = .idle ∧
    (out (.frameOutcome (mark true false)) (bay (heldW .held .ringingIn))).w.ic.call = .ringingIn ∧
    (out (.frameOutcome (mark false false)) (joiner helloW)).w.join.listen = some 10300000 ∧
    (out (.frameOutcome (mark false false)) (joiner askW)).w.join.limit = some 10500000 ∧
    (out (.frameOutcome (mark false false)) (head unitsW)).w.meter.current = 3 ∧
    (out (.frameOutcome (mark false false)) (head (setW 1))).w.con.results = [none] ∧
    (out .attemptFailed (head (setW 8))).w.con.results = [some .lineFail] := by decide +kernel

/-- The node that the completion of its own claim frame leaves. -/
def claimed (c : Core) (p : Producer) (u : Purpose) (f : PicFrame) (w : Work) : Node :=
  out (.frameOutcome (mark false false)) (on c (claimW p u 1 f w))
/-- The node that the eighth failed attempt of its own claim frame leaves. -/
def failed (c : Core) (p : Producer) (u : Purpose) (f : PicFrame) (w : Work) : Node := out .attemptFailed (on c (claimW p u 8 f w))
/-- The frame in the PICTURE slot, not begun. -/
def offered (n : Node) : Option Frame := n.w.sel.picture.map fun o => o.frame

theorem test_lane_claims : let won := claimed bayCore .card (.attempt 5) takeLane (laneW .none)
    won.w.ret.card.txn = .authWait ∧ (won.w.sel.card.map fun o => o.frame) = some (.authRequest 9 { auth with scheme := 0 }) ∧
    won.w.card.laneLeft = 2000000 ∧ won.w.ret.card.memory = [⟨5, tag 3 40, 880, List.replicate 16 7⟩] ∧
    (claimed (seeing bayCore rival) .card (.attempt 5) takeLane (laneW .none)).w.card.laneAsk = .untilFree ∧
    offered (failed bayCore .card (.attempt 5) takeLane (laneW .none)) = some (.pic takeLane) ∧
    (claimed bayCore .card .forward takeLane (stepW .taking false)).w.card.fwd = .sending ∧
    (claimed (seeing bayCore laneMine) .card .forward giveLane (stepW .giving true)).w.card.fwdRetry = some 40000000 ∧
    offered (claimed headCore .card .console seizeLane (forceW .forceLane)) = some (.pic giveLane) ∧
    (claimed unheard .card .console seizeLane (forceW .forceLane)).w.con.results = [some .wrongState] ∧
    (claimed headCore .card .console giveLane (forceW .forceLane)).w.con.results = [none] := by decide +kernel

theorem test_floor_claims : (claimed bayCore .intercom .plain (takeFloor 0) (pressW true)).w.ic.talkLimit = some 70000000 ∧
    offered (claimed bayCore .intercom .plain (takeFloor 0) (pressW false)) = some (.pic giveFloor) ∧
    (failed bayCore .intercom .plain (takeFloor 0) (pressW true)).w.ic.talkBusy = some 11000000 ∧
    (claimed headCore .intercom .console (takeFloor 16) toAllW).w.con.results = [none] ∧
    (let n := claimed (seeing headCore (floorTo 3 0)) .intercom .console (takeFloor 16) toAllW
     n.w.con.results = [some .wrongState] ∧ n.w.ic.call = .idle ∧ n.w.ic.busy = some 11000000) ∧
    (claimed (seeing bayCore (floorTo 3 0)) .intercom .plain giveFloor (endingW (withHead .connected))).w.ic.talk = .quiet ∧
    offered (claimed headCore .intercom .console seizeFloor (forceW .forceFloor)) = some (.pic giveFloor) ∧
    (failed headCore .intercom .console giveFloor (forceW .forceFloor)).w.con.results = [some .lineFail] := by decide +kernel

theorem test_other_claims : (claimed (seeing headCore aboard) .hiring .console close17 orphanW).w.con.results = [none] ∧
    (claimed headCore .hiring .console close17 orphanW).w.con.results = [some .noSuchHiring] ∧
    (failed headCore .hiring .console close17 orphanW).w.con.results = [some .lineFail] ∧
    (claimed headCore .assist .plain takeAssist { assistedW with con := Console.init }).w.assist = false ∧
    (claimed (seeing headCore assisted) .assist .console giveAssist assistedW).w.con.results = [none] := by decide +kernel

theorem test_notices : let gone := out (.drop 0 9) (on (seeing bayCore laneMine) waitAuthW)
    gone.w.ret.card.txn = .result ∧ gone.w.sel.has .card = true ∧
    (out (.drop 0 9) (bay (laneW .untilFree))).w.ret.card.record.result = some .approvedOffline ∧
    offered (out (.give 4 (some .lane)) (on (seeing bayCore rival) (laneW .untilFree))) = some (.pic takeLane) ∧
    (out (.take 0 (some .floor) 16) (bay w0)).w.ic.announce = true ∧ (out (.drop 4 0) (bay (callW (withHead .connected)))).w.ic.call = .idle ∧
    (out (.give 9 (some .drain)) (on (seeing bayCore draining) (streamW false))).w.stream = none := by decide +kernel

/-- 03 R52: the catch-up list fills after the first ask, in the re-ask wait too; its 17th frame starts the wait again. -/
theorem test_catch_up : let j (n : Nat) := { Join.init with asked := true, reask := some 10900000, caught := List.replicate n ⟨4, .drop 9, 0⟩ }
    (out (.drop 4 9) (joiner (joinW (j 15)))).w.join.caught.length = 16 ∧
    (out (.drop 4 9) (joiner (joinW (j 16)))).w.join = { j 0 with reask := some 11000000 } ∧
    (out (.drop 4 9) (joiner (joinW Join.init))).w.join.caught = [] := by decide +kernel

/-- 05 R88, log 52: the HEAD decides for its own hiring as a sender whose entry is that of a HEAD in service. -/
theorem test_own_sender_check : let n := out (.consoleStop (tag 0 2)) (on unheard (slotW (ownParty .running)))
    n.w.con.results = [some .wrongState] ∧ n.w.ret.slot.state = .running ∧
    (out (.consoleStartHire 0 0x01#8 (some .shared)) (on unheard w0)).w.con.results = [some .headLost] := by decide +kernel

/-- 08 R127, log 14: the release of a talk press stops its own BUSY only; a call that rings is heard before it. -/
theorem test_tones : let w := callW { withHead .connected with
      call := .idle, peer := none, talk := .blocked, keyHeld := true, busy := some 12000000, talkBusy := some 11000000 }
    let n := out .keyTalkRelease (bay { w with keys := { w.keys with talk := true } })
    n.w.ic.talk = .quiet ∧ n.w.ic.talkBusy = none ∧ n.w.ic.heard = some .busy ∧ n.w.ic.busy = some 12000000 ∧
    (let i : Intercom := { withHead .ringingIn with tone := some .ring, talkBusy := some 11000000 }
     i.heard = some .ring ∧ (out .toneTimerExpiry (bay (callW i))).w.ic.tone = some .ring ∧
       (out .toneTimerExpiry (bay (callW i))).w.ic.talkBusy = none) := by decide +kernel

/-- 08 R127, R136, log 14: the BUSY of a refused call outlives an announcement that ends meanwhile, and one that does not start leaves its later end. -/
theorem test_busy_goes_on : let n := out (.give 0 (some .floor)) (on (seeing bayCore (floorTo 0 16)) (callW { announced with busy := some 12000000 }))
    n.w.ic.call = .idle ∧ n.w.ic.busy = some 12000000 ∧
    (claimed (seeing headCore (floorTo 3 0)) .intercom .console (takeFloor 16)
      { toAllW with ic := { toAllW.ic with busy := some 12000000 } }).w.ic.busy = some 12000000 := by decide +kernel

/-- 09 R159, log 63: LANE won by the TAKE of an ended attempt and lost again ends TAKING; a LANE that another takes does not. -/
theorem test_lane_lost_in_taking : let w := stepW .taking false
    let n := out (.seize 0 (some .lane) 0) (on (seeing bayCore laneMine) w)
    n.w.card.fwd = .giving ∧ n.w.card.retry = true ∧ offered n = some (.pic giveLane) ∧
    (out (.take 4 (some .lane) 7) (bay w)).w.card.fwd = .taking := by decide +kernel

/-- Logs 54 and 56: two entries of one sequence, and a late approval that takes the OFFLINE one; a LANE still held is given back before it is asked for. -/
theorem test_card_corners : let w := txnW .laneWait
    let void5 := { w with ret := { w.ret with card := { w.ret.card with forward := [forwardOf .void 5] } }, card := { w.card with laneRun := some 12000000 } }
    ((out .laneLimitExpiry (bay void5)).w.ret.card.forward.map fun e => (e.kind, e.seq)) = [(.void, 5), (.offline, 5)] ∧
    (out (.authReply 9 3 auth0) (bay { w0 with ret := { w0.ret with card := { w0.ret.card with forward := twoOf5 } } })).w.ret.card.forward =
      [forwardOf .void 5] ∧
    offered (out .laneRetryExpiry (on (seeing bayCore laneMine) (timed { Card.init with laneRetry := some 12000000, laneAsk := .untilRetry } w))) =
      some (.pic giveLane) := by decide +kernel

/-- 04 R64: the reports carry the metres of a unit. -/
theorem test_report_metres : ((slot0 .running).report cfg1).metresPerUnit = 10 ∧ ((slot0 .running).closedRec cfg1).metresPerUnit = 10 := ⟨rfl, rfl⟩

/-! ## Formats (12 sections 12.5 to 12.8) -/

theorem test_link_messages : linkMessage 0x80 [0x00] = [0xA5, 0x01, 0x80, 0x00] ++ beBytes 2 (crcBytes [0x01, 0x80, 0x00]).toNat ∧
    linkGood (linkMessage 0x80 [0x00]) = true ∧ linkGood (linkMessage 0x80 [0x00] ++ [0]) = false ∧ crcBytes [0x31, 0x32, 0x33, 0x34, 0x35, 0x36, 0x37, 0x38, 0x39] = 0x29B1#16 := by decide +kernel

theorem test_tag_code : (tag 3 17).code = 0x3011#16 ∧ (tag 15 4095).code = 0xFFFF#16 ∧ daysBeforeYear 2100 = 36525 ∧
    (⟨2099, 12, 31, 23, 59, 59⟩ : DateTime).secs + 1 = clockLimit := by decide +kernel

theorem test_step_takes_the_front : step { head w0 with pending := [.lineIdle, .attemptFailed] } = exec .lineIdle { head w0 with pending := [.attemptFailed] } ∧
    decodeTableWord 32 0 = none ∧ State.reset.withFetchWord 32 0 = State.reset := ⟨rfl, rfl, rfl⟩

end Sys2Proof.Tests
end

/-! The vehicle picture: what its readers and its frames say, and the laws that every frame keeps (01 R2 to R23). -/

namespace Sys2Proof

open Machine (InServiceHead MayTake openChecks)

/-! ## Claim words -/

/-- A property of every seat is one of the six seats, one by one. -/
theorem seat_cases {motive : Fin 6 → Prop} (h0 : motive 0) (h1 : motive 1) (h2 : motive 2) (h3 : motive 3) (h4 : motive 4)
    (h5 : motive 5) (i : Fin 6) : motive i :=
  match i with
  | 0 => h0
  | 1 => h1
  | 2 => h2
  | 3 => h3
  | 4 => h4
  | 5 => h5

theorem Claims.get_set (c : Claims) (w w' : WordId) (v : Claim) :
    (c.set w v).get w' = if w' = w then v else c.get w' := by
  rcases w with _ | _ | _ | _ | _ | _ | i <;> rcases w' with _ | _ | _ | _ | _ | _ | j
  case seat.seat => cases i using seat_cases <;> cases j using seat_cases <;> rfl
  case seat.floor | seat.lane | seat.shift | seat.close | seat.drain | seat.assist => cases i using seat_cases <;> rfl
  case floor.seat | lane.seat | shift.seat | close.seat | drain.seat | assist.seat => cases j using seat_cases <;> rfl
  all_goals rfl

@[simp] theorem Picture.claim_hold (p : Picture) (w w' : WordId) (s : Station) (tag : BitVec 16) :
    (p.hold w s tag).claim w' = if w' = w then ⟨some s, tag⟩ else p.claim w' := Claims.get_set ..

@[simp] theorem Picture.claim_freeWord (p : Picture) (w w' : WordId) :
    (p.freeWord w).claim w' = if w' = w then ⟨none, 0⟩ else p.claim w' := Claims.get_set ..

theorem Picture.free_iff (p : Picture) (w : WordId) : p.free w = true ↔ (p.claim w).holder = none := by
  simp [Picture.free, Claim.isFree]

theorem Picture.holds_iff (p : Picture) (w : WordId) (s : Station) : p.holds w s = true ↔ (p.claim w).holder = some s := by
  simp [Picture.holds, Claim.heldBy]

theorem Picture.seatUnder_iff (p : Picture) (src : Station) (tag : Tag) (i : Fin 6) :
    p.seatUnder src tag i = true ↔ p.claim (.seat i) = ⟨some src, tag.code⟩ := by
  simp [Picture.seatUnder]

/-! ## The roster -/

theorem Picture.isHead_iff (p : Picture) (s : Station) : p.isHead s = true ↔ InServiceHead p s := by
  unfold Picture.isHead InServiceHead
  cases p.entry s <;> simp [RosterEntry.inServiceAs]

theorem Picture.cn40_iff (p : Picture) (s : Station) :
    p.cn40 s = true ↔ ∃ e, p.entry s = some e ∧ (e.role = .head ∨ e.role = .bay) ∧ e.state = .inService := by
  unfold Picture.cn40
  cases p.entry s <;> simp

theorem Picture.present_iff (p : Picture) (s : Station) (r : Role) :
    p.present s r = true ↔ ∃ e, p.entry s = some e ∧ e.role = r ∧ (e.state = .inService ∨ e.state = .listener) := by
  unfold Picture.present
  cases p.entry s <;> simp

theorem mem_putEntry {e x : RosterEntry} {l : List RosterEntry} (h : x ∈ putEntry e l) : x = e ∨ x ∈ l := by
  induction l with
  | nil => exact .inl (List.mem_singleton.mp h)
  | cons y l ih =>
    unfold putEntry at h
    split at h
    · simpa using h
    · split at h
      · rcases List.mem_cons.mp h with h | h
        · exact .inl h
        · exact .inr (List.mem_cons_of_mem y h)
      · rcases List.mem_cons.mp h with rfl | h
        · exact .inr List.mem_cons_self
        · exact (ih h).imp_right (List.mem_cons_of_mem y)

/-- Another station is found as before, the entry's own station has the new entry. -/
theorem find_putEntry (e : RosterEntry) (s : Station) (l : List RosterEntry) :
    (putEntry e l).find? (fun x => x.station == s) =
      if s = e.station then some e else l.find? (fun x => x.station == s) := by
  induction l with
  | nil =>
    by_cases h : s = e.station
    · simp [putEntry, h]
    · simp [putEntry, h, Ne.symm h]
  | cons y l ih =>
    unfold putEntry
    by_cases h : s = e.station
    · subst h
      split
      · simp
      · split
        · simp
        · next hne => simpa [Ne.symm hne] using ih
    · split
      · simp [List.find?_cons, Ne.symm h]
      · split
        · next heq => simp [← heq, Ne.symm h]
        · simp only [List.find?_cons, ih, h, if_false]

theorem rosterOrdered_iff (l : List RosterEntry) : rosterOrdered l = true ↔ l.Pairwise fun a b => a.station < b.station := by
  induction l with
  | nil => simp [rosterOrdered]
  | cons e l ih => simp [rosterOrdered, ih]

theorem putEntry_ordered (e : RosterEntry) {l : List RosterEntry} (h : l.Pairwise fun a b => a.station < b.station) :
    (putEntry e l).Pairwise fun a b => a.station < b.station := by
  induction l with
  | nil => simp [putEntry]
  | cons y l ih =>
    obtain ⟨hy, hl⟩ := List.pairwise_cons.mp h
    unfold putEntry
    split
    · next hlt =>
      refine List.pairwise_cons.mpr ⟨fun x hx => ?_, h⟩
      rcases List.mem_cons.mp hx with rfl | hx
      · exact hlt
      · exact Nat.lt_trans hlt (hy x hx)
    · split
      · next heq => exact List.pairwise_cons.mpr ⟨fun x hx => heq ▸ hy x hx, hl⟩
      · next hge hne =>
        refine List.pairwise_cons.mpr ⟨fun x hx => ?_, ih hl⟩
        rcases mem_putEntry hx with rfl | hx
        · exact Nat.lt_of_le_of_ne (Nat.le_of_not_lt hge) fun hv => hne (Fin.ext hv.symm)
        · exact hy x hx

/-! ## Hirings -/

theorem tagsDistinct_iff (l : List HiringEntry) : tagsDistinct l = true ↔ l.Pairwise fun a b => a.tag ≠ b.tag := by
  induction l with
  | nil => simp [tagsDistinct]
  | cons h l ih => simp [tagsDistinct, ih]

theorem Picture.hiring_none_iff (p : Picture) (t : Tag) : p.hiring t = none ↔ ∀ h ∈ p.hirings, h.tag ≠ t := by
  simp [Picture.hiring]

@[simp] theorem HiringEntry.orphan_tag (h : HiringEntry) (s : Station) : (h.orphan s).tag = h.tag := by
  unfold HiringEntry.orphan
  repeat' split
  all_goals rfl

@[simp] theorem HiringEntry.orphan_mode (h : HiringEntry) (s : Station) : (h.orphan s).mode = h.mode := by
  unfold HiringEntry.orphan
  repeat' split
  all_goals rfl

/-! ## The laws, one by one (01 R2 to R4) -/

/-- The law of one claim word (01 R3). -/
def Claim.keepsLaw (c : Claim) : WordId → Bool
  | .seat _ => c.seatLawful
  | _ => c.lawful

theorem Claim.free_keepsLaw (w : WordId) : Claim.keepsLaw ⟨none, 0⟩ w = true := by
  cases w <;> rfl

/-- The laws of a picture as propositions. -/
structure Picture.Laws (p : Picture) : Prop where
  roster : p.roster.Pairwise fun a b => a.station < b.station
  words : ∀ w, (p.claim w).keepsLaw w = true
  few : p.hirings.length ≤ 4
  tags : p.hirings.Pairwise fun a b => a.tag ≠ b.tag
  solo : ∀ h ∈ p.hirings, h.mode = .solo → p.hirings.length = 1

theorem allWords_iff (P : WordId → Prop) : (∀ w, P w) ↔
    (P .floor ∧ P .lane ∧ P .shift ∧ P .close ∧ P .drain ∧ P .assist) ∧ ∀ i, P (.seat i) := by
  constructor
  · exact fun h => ⟨⟨h _, h _, h _, h _, h _, h _⟩, fun i => h _⟩
  · rintro ⟨⟨h1, h2, h3, h4, h5, h6⟩, h7⟩ w
    cases w <;> simp_all

theorem allSeats_all (f : Fin 6 → Bool) : allSeats.all f = true ↔ ∀ i, f i = true := by
  simp [allSeats, Fin.forall_fin_succ]

theorem Picture.lawful_iff (p : Picture) : p.lawful = true ↔ p.Laws := by
  have hw := allWords_iff fun w => (p.claim w).keepsLaw w = true
  have hs : (!p.hirings.any (fun h => h.mode == .solo) || decide (p.hirings.length = 1)) = true ↔
      ∀ h ∈ p.hirings, h.mode = .solo → p.hirings.length = 1 := by
    rw [Bool.or_eq_true, Bool.not_eq_true', List.any_eq_false, decide_eq_true_eq]
    constructor
    · rintro (h | h) x hx hm
      · exact absurd (beq_iff_eq.mpr hm) (h x hx)
      · exact h
    · intro h
      by_cases hl : p.hirings.length = 1
      · exact .inr hl
      · exact .inl fun x hx hm => hl (h x hx (beq_iff_eq.mp hm))
  unfold Picture.lawful
  simp only [Bool.and_eq_true, hs, rosterOrdered_iff, tagsDistinct_iff, allSeats_all, decide_eq_true_eq, List.all_cons,
    List.all_nil, and_true]
  constructor
  · rintro ⟨⟨⟨⟨⟨h1, h2⟩, h3⟩, h4⟩, h5⟩, h6⟩
    exact ⟨h1, hw.mpr ⟨h2, h3⟩, h4, h5, h6⟩
  · rintro ⟨h1, h2, h4, h5, h6⟩
    exact ⟨⟨⟨⟨⟨h1, (hw.mp h2).1⟩, (hw.mp h2).2⟩, h4⟩, h5⟩, h6⟩

/-! ## What keeps the laws -/

theorem Picture.Laws.withRoster {p : Picture} (h : p.Laws) {l : List RosterEntry}
    (hl : l.Pairwise fun a b => a.station < b.station) : { p with roster := l }.Laws := ⟨hl, h.words, h.few, h.tags, h.solo⟩

/-- Words may change where the new value keeps the word's law. -/
theorem Picture.Laws.withWords {p : Picture} (h : p.Laws) {c : Claims}
    (hc : ∀ w, c.get w = p.claim w ∨ (c.get w).keepsLaw w = true) : { p with claims := c }.Laws := by
  refine ⟨h.roster, fun w => ?_, h.few, h.tags, h.solo⟩
  rcases hc w with hw | hw
  · exact (congrArg (Claim.keepsLaw · w) hw).trans (h.words w)
  · exact hw

/-- Entries may change anything but their tag and mode. -/
theorem Picture.Laws.mapHirings {p : Picture} (h : p.Laws) {f : HiringEntry → HiringEntry} (ht : ∀ x, (f x).tag = x.tag)
    (hm : ∀ x, (f x).mode = x.mode) : { p with hirings := p.hirings.map f }.Laws := by
  refine ⟨h.roster, h.words, by simpa using h.few, List.pairwise_map.mpr (by simpa only [ht] using h.tags), ?_⟩
  intro y hy hs
  obtain ⟨x, hx, rfl⟩ := List.mem_map.mp hy
  simpa using h.solo x hx ((hm x).symm.trans hs)

theorem Picture.Laws.filterHirings {p : Picture} (h : p.Laws) (f : HiringEntry → Bool) :
    { p with hirings := p.hirings.filter f }.Laws := by
  have hl : (p.hirings.filter f).length ≤ p.hirings.length := List.length_filter_le f p.hirings
  refine ⟨h.roster, h.words, Nat.le_trans hl h.few, h.tags.filter f, fun x hx hs => ?_⟩
  have h1 : p.hirings.length = 1 := h.solo x (List.mem_filter.mp hx).1 hs
  have h0 : 0 < (p.hirings.filter f).length := List.length_pos_of_mem hx
  exact Nat.le_antisymm (h1 ▸ hl) h0

/-- An entry that finds room for its mode, with a tag of its own. -/
theorem Picture.Laws.addHiring {p : Picture} (h : p.Laws) {x : HiringEntry} (hn : p.hiring x.tag = none)
    (hl : p.hirings.length < 4) (hf : p.modeFits (some x.mode) = true) : (p.addHiring x).Laws := by
  rw [Picture.hiring_none_iff] at hn
  refine ⟨h.roster, h.words, Nat.le_trans (Nat.le_of_eq List.length_append) hl,
    List.pairwise_append.mpr ⟨h.tags, List.pairwise_singleton _ _, fun a ha b hb => List.mem_singleton.mp hb ▸ hn a ha⟩, ?_⟩
  intro y hy hs
  rcases List.mem_append.mp hy with hy | hy
  · cases hm : x.mode with
    | solo =>
      rw [hm] at hf
      rw [List.isEmpty_iff.mp hf] at hy
      exact absurd hy List.not_mem_nil
    | shared =>
      simp only [hm, Picture.modeFits, Bool.not_eq_true', List.any_eq_false, beq_iff_eq] at hf
      exact absurd hs (hf y hy)
  · rw [List.mem_singleton.mp hy] at hs
    simp only [hs, Picture.modeFits, List.isEmpty_iff] at hf
    simp [Picture.addHiring, hf]

end Sys2Proof

namespace Sys2Proof

open Machine (InServiceHead MayTake openChecks)

/-! ## One frame as a series of edits that keep the laws -/

/-- The elementary changes that a frame makes to a picture, each with what it needs to keep the laws. -/
inductive Picture.Edited : Picture → Picture → Prop
  | same (p) : Edited p p
  | then' {p q r} : Edited p q → Edited q r → Edited p r
  | roster (p) (l : List RosterEntry)
      (hl : (p.roster.Pairwise fun a b => a.station < b.station) → l.Pairwise fun a b => a.station < b.station) :
      Edited p { p with roster := l }
  | words (p) (c : Claims) (hc : ∀ w, c.get w = p.claim w ∨ (c.get w).keepsLaw w = true) : Edited p { p with claims := c }
  | shift (p) (r : Option ShiftRec) : Edited p { p with shift := r }
  | addHiring (p) (x : HiringEntry) (hn : p.hiring x.tag = none) (hl : p.hirings.length < 4)
      (hf : p.modeFits (some x.mode) = true) : Edited p (p.addHiring x)
  | mapHirings (p) (f : HiringEntry → HiringEntry) (ht : ∀ x, (f x).tag = x.tag) (hm : ∀ x, (f x).mode = x.mode) :
      Edited p { p with hirings := p.hirings.map f }
  | filterHirings (p) (f : HiringEntry → Bool) : Edited p { p with hirings := p.hirings.filter f }

theorem Picture.Edited.keepsLaws {p q : Picture} (h : p.Edited q) (hp : p.Laws) : q.Laws := by
  induction h with
  | same => exact hp
  | then' _ _ ih1 ih2 => exact ih2 (ih1 hp)
  | roster p l hl => exact hp.withRoster (hl hp.roster)
  | words p c hc => exact hp.withWords hc
  | shift p r => exact ⟨hp.roster, hp.words, hp.few, hp.tags, hp.solo⟩
  | addHiring p x hn hl hf => exact hp.addHiring hn hl hf
  | mapHirings p f ht hm => exact hp.mapHirings ht hm
  | filterHirings p f => exact hp.filterHirings f

/-- No edit touches the vehicle digest or the picture sequence. -/
theorem Picture.Edited.digest_seq {p q : Picture} (h : p.Edited q) : q.digest = p.digest ∧ q.seq = p.seq := by
  induction h with
  | then' _ _ ih1 ih2 => exact ⟨ih2.1.trans ih1.1, ih2.2.trans ih1.2⟩
  | _ => exact ⟨rfl, rfl⟩

/-- A series of edits, one for each member of a list. -/
theorem Picture.Edited.foldl {α : Type} {f : Picture → α → Picture} {l : List α} (hf : ∀ q : Picture, ∀ x ∈ l, q.Edited (f q x)) (p : Picture) :
    p.Edited (l.foldl f p) := by
  induction l generalizing p with
  | nil => exact .same p
  | cons x l ih =>
    exact (hf p x List.mem_cons_self).then' (ih (fun q y hy => hf q y (List.mem_cons_of_mem x hy)) (f p x))

theorem Picture.Edited.hold (p : Picture) {w : WordId} {s : Station} {tag : BitVec 16}
    (hw : Claim.keepsLaw ⟨some s, tag⟩ w = true) : p.Edited (p.hold w s tag) := by
  refine .words p _ fun w' => ?_
  rw [Claims.get_set]
  split
  · next heq => exact .inr (heq ▸ hw)
  · exact .inl rfl

theorem Picture.Edited.freeWord (p : Picture) (w : WordId) : p.Edited (p.freeWord w) := by
  refine .words p _ fun w' => ?_
  rw [Claims.get_set]
  split
  · exact .inr (Claim.free_keepsLaw w')
  · exact .inl rfl

/-- A word other than a seat word may be held by any station under any tag. -/
theorem Claim.held_keepsLaw {w : WordId} (hw : ∀ i, w ≠ .seat i) (s : Station) (tag : BitVec 16) :
    Claim.keepsLaw ⟨some s, tag⟩ w = true := by
  cases w with
  | seat i => exact absurd rfl (hw i)
  | _ => rfl

theorem Tag.code_home (t : Tag) : t.code.toNat / 4096 = t.home.val := by
  have hh := t.home.isLt
  have hs := t.seq.isLt
  simp only [Tag.code, BitVec.toNat_ofNat]
  omega

theorem Picture.edited_unannounce (p : Picture) (src : Station) : p.Edited (p.unannounce src) := by
  refine .roster p _ fun h => List.pairwise_map.mpr (h.imp fun {a b} hab => ?_)
  repeat' split
  all_goals exact hab

theorem Picture.edited_setHiring (p : Picture) (tag : Tag) (st : EntryHire) : p.Edited (p.setHiring tag st) := by
  refine .mapHirings p _ (fun x => ?_) fun x => ?_
  all_goals split <;> rfl

theorem Picture.edited_take (p : Picture) (src : Station) (w : WordId) (tag : BitVec 16) : p.Edited (p.take src w tag).1 := by
  unfold Picture.take
  split
  · exact .same p
  · next hm =>
    split
    · refine .hold p (Claim.held_keepsLaw ?_ src tag)
      rintro i rfl
      simp [Picture.mayTake] at hm
    · split <;> exact .same p

theorem Picture.edited_takeSet (p : Picture) (src : Station) (seats : SeatSet) (tag : Tag) :
    p.Edited (p.takeSet src seats tag).1 := by
  unfold Picture.takeSet
  simp only []
  split
  · exact .same p
  · next hr =>
    have hh : tag.home = src := by simp_all
    repeat' split
    · exact .same p
    · exact .foldl (fun q i _ => .hold q (by simp [Claim.keepsLaw, Claim.seatLawful, Tag.code_home, hh])) p
    · exact .same p

theorem Picture.edited_give (p : Picture) (src : Station) (w : WordId) : p.Edited (p.give src w).1 := by
  unfold Picture.give
  split
  · exact .freeWord p w
  · exact .same p

theorem Picture.edited_seize (p : Picture) (src : Station) (w : WordId) (tag : BitVec 16) : p.Edited (p.seize src w tag).1 := by
  unfold Picture.seize
  extract_lets inRange
  split
  · next hr =>
    refine .hold p (Claim.held_keepsLaw ?_ src tag)
    rintro i rfl
    simp [inRange] at hr
  · exact .same p

theorem Picture.edited_shiftOpen (p : Picture) (src : Station) (n d : Nat) (o : Stamp) : p.Edited (p.shiftOpen src n d o).1 := by
  unfold Picture.shiftOpen
  split
  · exact (Edited.hold p rfl).then' (.shift _ _)
  · exact .same p

theorem Picture.edited_closeCall (p : Picture) (src : Station) (n : Nat) : p.Edited (p.closeCall src n).1 := by
  unfold Picture.closeCall
  repeat' split
  · exact .hold p rfl
  all_goals exact .same p

theorem Picture.edited_closeAbandon (p : Picture) (src : Station) : p.Edited (p.closeAbandon src).1 := by
  unfold Picture.closeAbandon
  split
  · exact .freeWord p .close
  · exact .same p

theorem Picture.edited_closeCommit (p : Picture) (src : Station) (n : Nat) : p.Edited (p.closeCommit src n).1 := by
  unfold Picture.closeCommit
  split
  · exact (Edited.freeWord p .shift).then' (.freeWord _ .close)
  · exact .same p

/-- What the checks of R20 leave of the laws to be seen to. -/
theorem Picture.openCheck_none {p : Picture} {full : Bool} {src : Station} {tag : Tag} {mode : Option Mode} {seats : SeatSet}
    (h : p.openCheck full src tag mode seats = none) :
    p.hiring tag = none ∧ p.hirings.length < 4 ∧ p.modeFits mode = true := by
  unfold Picture.openCheck at h
  repeat' split at h
  all_goals simp_all

theorem Picture.modeFits_some {p : Picture} {mode : Option Mode} (h : p.modeFits mode = true) : ∃ m, mode = some m := by
  cases mode with
  | none => simp [Picture.modeFits] at h
  | some m => exact ⟨m, rfl⟩

theorem Picture.edited_opened {p : Picture} {full : Bool} {src : Station} {tag : Tag} {mode : Option Mode} {seats : SeatSet}
    (h : p.openCheck full src tag mode seats = none) (st : EntryHire) (start : Stamp) :
    p.Edited (p.addHiring ⟨tag, mode.getD .shared, seats, st, start⟩) := by
  obtain ⟨hn, hl, hf⟩ := Picture.openCheck_none h
  obtain ⟨m, rfl⟩ := Picture.modeFits_some hf
  exact .addHiring p _ hn hl hf

theorem Picture.edited_hireOpen (p : Picture) (src : Station) (tag : Tag) (mode : Option Mode) (seats : SeatSet) (start : Stamp) :
    p.Edited (p.hireOpen src tag mode seats start).1 := by
  unfold Picture.hireOpen
  split
  · exact .same p
  · next h => exact Picture.edited_opened h _ _

theorem Picture.edited_hireState (p : Picture) (src : Station) (tag : Tag) (st : Option HireState) :
    p.Edited (p.hireState src tag st).1 := by
  unfold Picture.hireState
  repeat' split
  all_goals first | exact .same p | exact Picture.edited_setHiring p _ _

theorem Picture.edited_freeTag (p : Picture) (tag : Tag) : p.Edited (p.freeTag tag) := by
  refine .foldl (fun q i _ => ?_) p
  split
  · exact .freeWord q _
  · exact .same q

theorem Picture.edited_hireClose (p : Picture) (src : Station) (tag : Tag) : p.Edited (p.hireClose src tag).1 := by
  unfold Picture.hireClose
  split
  · exact .same p
  · split
    · simp only []
      split
      · exact (Edited.filterHirings p _).then' (Picture.edited_freeTag _ tag)
      · exact .filterHirings p _
    · exact .same p

theorem Picture.edited_hireReclaim (p : Picture) (src : Station) (tag : Tag) (st : Option HireState) (mode : Option Mode)
    (seats : SeatSet) (start : Stamp) : p.Edited (p.hireReclaim src tag st mode seats start).1 := by
  unfold Picture.hireReclaim
  split
  · exact .same p
  · split
    · repeat' split
      all_goals first | exact .same p | exact (Picture.edited_setHiring p _ _).then' (Picture.edited_unannounce _ _)
    · cases hc : p.openCheck false src tag mode seats with
      | some r => exact .same p
      | none =>
        cases st with
        | none => exact .same p
        | some st => exact (Picture.edited_opened hc _ _).then' (Picture.edited_unannounce _ _)

theorem Claims.get_dropHolder (c : Claims) (s : Station) (w : WordId) : (c.dropHolder s).get w =
    if (c.get w).holder = some s ∧ (w = .floor ∨ w = .lane ∨ w = .close ∨ w = .drain) then ⟨none, 0⟩ else c.get w := by
  cases w with
  | seat i => cases i using seat_cases <;> simp [Claims.dropHolder, Claims.get]
  | _ => simp [Claims.dropHolder, Claims.get, Claim.heldBy, Machine.Claim.free]

theorem Picture.edited_drop (p : Picture) (s : Station) : p.Edited (p.drop s) := by
  unfold Picture.drop
  split
  · refine ((Edited.roster p _ fun h => h.filter _).then' (.words _ (p.claims.dropHolder s) fun w => ?_)).then'
      (.mapHirings _ _ (fun x => x.orphan_tag s) fun x => x.orphan_mode s)
    rw [Claims.get_dropHolder]
    split
    · exact .inr (Claim.free_keepsLaw w)
    · exact .inl rfl
  · exact .same p

theorem Picture.edited_status (p : Picture) (src : Station) (st : StatusPay) : p.Edited (p.status src st) := by
  unfold Picture.status
  repeat' split
  · exact .roster p _ (putEntry_ordered _)
  all_goals exact .same p

theorem Picture.edited_hello (p : Picture) (src : Station) (h : HelloPay) : p.Edited (p.hello src h) := by
  unfold Picture.hello
  split
  · exact .roster p _ (putEntry_ordered _)
  · exact .same p

theorem Picture.edited_effect (p : Picture) (src : Station) (f : PicFrame) : p.Edited (p.effect src f).1 := by
  cases f with
  | hello h => exact p.edited_hello src h
  | status st => exact p.edited_status src st
  | drop s => exact p.edited_drop s
  | take w tag =>
    cases w with
    | none => exact .same p
    | some w => exact p.edited_take src w tag
  | takeSet seats tag => exact p.edited_takeSet src seats tag
  | give w =>
    cases w with
    | none => exact .same p
    | some w => exact p.edited_give src w
  | seize w tag =>
    cases w with
    | none => exact .same p
    | some w => exact p.edited_seize src w tag
  | shiftOpen n d o => exact p.edited_shiftOpen src n d o
  | closeCall n force => exact p.edited_closeCall src n
  | closeCommit n force => exact p.edited_closeCommit src n
  | closeAbandon => exact p.edited_closeAbandon src
  | hireOpen tag mode seats start => exact p.edited_hireOpen src tag mode seats start
  | hireState tag st => exact p.edited_hireState src tag st
  | hireClose tag => exact p.edited_hireClose src tag
  | hireReclaim tag st mode seats start => exact p.edited_hireReclaim src tag st mode seats start

/-- Every frame keeps the laws of a lawful picture. -/
theorem Picture.apply_lawful {p : Picture} (hp : p.lawful = true) (src : Station) (f : PicFrame) :
    (p.apply src f).1.lawful = true := by
  have h := (p.edited_effect src f).keepsLaws (p.lawful_iff.mp hp)
  exact (Picture.lawful_iff _).mpr ⟨h.roster, h.words, h.few, h.tags, h.solo⟩

end Sys2Proof

/-! What every command does to the core: who holds a picture, and that its laws stand (01 R1 to R4, 03 R63). -/

namespace Sys2Proof.Machine

/-! ## The core's invariant -/

theorem Core.ok_iff (c : Core) : c.ok = true ↔
    c.pic.isSome = c.serving ∧ (∀ p, c.pic = some p → p.lawful = true) ∧ c.halt.isSome = (c.node == .halted) := by
  unfold Core.ok Core.serving
  cases c.pic <;> simp [and_assoc]

/-- A node that holds no picture, and has a halt reason exactly in HALTED. -/
theorem Core.ok_of_none {c : Core} (hp : c.pic = none) (hs : c.serving = false) (hh : c.halt.isSome = (c.node == .halted)) :
    c.ok = true := by
  rw [Core.ok_iff]
  simp [hp, hs, hh]

/-- A node that holds a lawful picture. -/
theorem Core.ok_of_some {c : Core} {p : Picture} (hp : c.pic = some p) (hl : p.lawful = true) (hs : c.serving = true)
    (hh : c.halt = none) : c.ok = true := by
  have hn : (c.node == .halted) = false := by
    revert hs
    unfold Core.serving
    cases c.node <;> simp [NodeState.serving]
  rw [Core.ok_iff]
  simp [hp, hl, hs, hh, hn]

theorem Core.view_lawful {c : Core} (h : c.ok = true) : c.view.lawful = true := by
  unfold Core.view
  cases hp : c.pic with
  | none => rfl
  | some p => exact (c.ok_iff.mp h).2.1 p hp

theorem Core.applied_ok {c : Core} (h : c.ok = true) (hs : c.serving = true) (src : Station) (f : PicFrame) :
    (c.applied src f).ok = true := by
  have hh : c.halt = none := by
    have hne : c.node ≠ .halted := by
      intro h1
      rw [Core.serving, h1] at hs
      exact Bool.false_ne_true hs
    have h3 := (c.ok_iff.mp h).2.2
    rw [beq_false_of_ne hne] at h3
    exact Option.not_isSome_iff_eq_none.mp (h3 ▸ Bool.false_ne_true)
  exact Core.ok_of_some (c := c.applied src f) rfl (Picture.apply_lawful (Core.view_lawful h) src f) hs hh

theorem Core.move_ok (c : Core) {st : NodeState} (hs : st.serving = false) (hh : st ≠ .halted) : (c.move st).ok = true :=
  Core.ok_of_none rfl hs (by simp [hh])

/-! ## What keeps it -/

/-- The invariant of a node's core is kept. -/
def KeepsCore (f : Node → Node) : Prop := ∀ n, n.core.ok = true → (f n).core.ok = true

theorem keepsCore_of_same {f : Node → Node} (h : ∀ n, (f n).core = n.core) : KeepsCore f := fun n hn => (h n).symm ▸ hn

@[simp] theorem leave_core (st : NodeState) (h : Option HaltReason) (n : Node) :
    (leave st h n).core = { n.core with node := st, halt := h, pic := none } := rfl

theorem keepsCore_leave {st : NodeState} {h : Option HaltReason} (hs : st.serving = false)
    (hh : h.isSome = (st == .halted)) : KeepsCore (leave st h) := fun _ _ => Core.ok_of_none rfl hs hh

theorem keepsCore_haltNode (r : HaltReason) : KeepsCore (haltNode r) := keepsCore_leave rfl rfl

theorem keepsCore_unfound : KeepsCore unfound := fun n _ => n.core.move_ok rfl (by decide)

theorem enterService_ok {st : NodeState} {p : Picture} (hs : st.serving = true) (hp : p.lawful = true) (a : Announce) (n : Node) :
    (enterService st p a n).core.ok = true := Core.ok_of_some rfl hp hs rfl

/-- The HEAD, or BAY, alone, with its open shift. -/
theorem foundedPicture_lawful (c : Core) (w : Work) (st : StatusPay) : (foundedPicture c w st).lawful = true := by
  unfold foundedPicture
  cases seedShift w <;> rfl

theorem keepsCore_found (st : StatusPay) : KeepsCore (found st) :=
  fun n _ => enterService_ok rfl (foundedPicture_lawful n.core n.w st) .done n

theorem applyCaught_lawful (k : Nat) (l : List Caught) {p : Picture} (hp : p.lawful = true) :
    (applyCaught k l p).lawful = true := by
  unfold applyCaught
  generalize l.filter (fun x => x.parts == k) = m
  induction m generalizing p with
  | nil => exact hp
  | cons x m ih => exact ih (Picture.apply_lawful hp x.src x.frame)

theorem assemble_lawful {j : Join} {q : Picture} (h : assemble j = some q) : q.lawful = true := by
  unfold assemble at h
  split at h
  · extract_lets q0 q1 q2 at h
    split at h
    · next hc =>
      simp only [Bool.and_eq_true] at hc
      obtain ⟨⟨⟨hp, -⟩, -⟩, -⟩ := hc
      exact Option.some.inj h ▸ applyCaught_lawful 2 _ (applyCaught_lawful 1 _ (applyCaught_lawful 0 _ hp))
    · exact absurd h nofun
  · exact absurd h nofun

theorem adopt_ok {p : Picture} (hp : p.lawful = true) {n : Node} (hn : n.core.ok = true) : (adopt p n).core.ok = true := by
  unfold adopt
  extract_lets c a
  repeat' split
  · exact keepsCore_haltNode _ n hn
  · exact keepsCore_haltNode _ n hn
  · exact enterService_ok rfl hp a n
  · exact enterService_ok rfl hp a n

theorem keepsCore_takePart (src : Station) (p : SnapPart) : KeepsCore (takePart src p) := by
  intro n hn
  unfold takePart
  extract_lets j w
  repeat' split
  case h_1 hq => exact adopt_ok (assemble_lawful hq) hn
  all_goals exact hn

theorem keepsCore_joinDone (f : Frame) : KeepsCore (joinDone f) := by
  intro n hn
  unfold joinDone
  split
  case h_3 => exact keepsCore_found _ n hn
  all_goals exact hn

theorem keepsCore_joinAbandoned (f : Frame) : KeepsCore (joinAbandoned f) := by
  intro n hn
  unfold joinAbandoned
  split
  case h_2 => exact keepsCore_unfound n hn
  all_goals exact hn

/-- A frame met by a node that holds the picture: applied, or the node leaves service. -/
theorem applyFrame_ok (src : Station) (f : PicFrame) (own : Option Offer) {n : Node} (hn : n.core.ok = true)
    (hs : n.core.serving = true) : (applyFrame src f own n).core.ok = true := by
  unfold applyFrame
  extract_lets c0 p a c w
  repeat' split
  · exact keepsCore_leave rfl rfl ⟨c0, w⟩ hn
  · exact keepsCore_haltNode _ ⟨c0, w⟩ hn
  · exact keepsCore_haltNode _ ⟨c0, w⟩ hn
  · exact Core.applied_ok hn hs src f

theorem keepsCore_picAbandoned (f : PicFrame) (o : Offer) (a : Abandon) : KeepsCore (picAbandoned f o a) := by
  intro n hn
  unfold picAbandoned
  extract_lets c w
  split
  case h_6 => exact keepsCore_joinAbandoned _ n hn
  all_goals exact hn

theorem keepsCore_returned (o : Offer) (r : FrameResult) : KeepsCore (returned o r) := by
  intro n hn
  unfold returned
  repeat' split
  · exact hn
  · exact hn
  · exact keepsCore_picAbandoned _ o _ n hn
  · next hs => exact applyFrame_ok _ _ _ hn hs
  · exact keepsCore_joinDone _ n hn
  · exact keepsCore_joinAbandoned _ n hn
  · exact keepsCore_joinDone _ n hn
  · exact hn

theorem keepsCore_failAttempt : KeepsCore failAttempt := by
  intro n hn
  unfold failAttempt
  split
  · exact hn
  · extract_lets w
    repeat' split
    · exact keepsCore_returned _ _ ⟨n.core, _⟩ hn
    · exact keepsCore_returned _ _ ⟨n.core, _⟩ hn
    · exact keepsCore_returned _ _ ⟨n.core, _⟩ hn
    · exact hn

theorem keepsCore_frameOutcome (m : Marks) : KeepsCore (frameOutcome m) := by
  intro n hn
  unfold frameOutcome
  repeat' split
  · exact hn
  · exact hn
  · exact keepsCore_failAttempt n hn
  · exact keepsCore_returned _ _ ⟨n.core, _⟩ hn

theorem keepsCore_broadcast (src : Station) (f : Frame) {take : Node → Node} (h : KeepsCore take) :
    KeepsCore (broadcast src f take) := by
  intro n hn
  unfold broadcast
  split
  · exact keepsCore_frameOutcome _ n hn
  · exact h _ ((completed_core src n).symm ▸ hn)

theorem addressed_core (src dst : Station) (take : Core → Work → Option Work) (n : Node) :
    (addressed src dst take n).core = n.core := by
  unfold addressed
  extract_lets n'
  split <;> exact completed_core src n

theorem decided_core (src dst : Station) (take : Core → Work → Bool × Work) (n : Node) :
    (decided src dst take n).core = n.core := by
  unfold decided
  extract_lets n'
  split <;> exact completed_core src n

theorem keepsCore_joiningPic (src : Station) (f : PicFrame) : KeepsCore (joiningPic src f) := by
  intro n hn
  unfold joiningPic
  extract_lets me n'
  repeat' split
  · exact keepsCore_haltNode _ n hn
  · exact keepsCore_unfound n' hn
  · exact hn

theorem keepsCore_otherPic (src : Station) (f : PicFrame) : KeepsCore (otherPic src f) := by
  intro n hn
  unfold otherPic
  repeat' split
  · next hs => exact applyFrame_ok src f none hn hs
  · exact keepsCore_joiningPic src f n hn
  · exact hn

theorem keepsCore_picFrame (src : Station) (f : PicFrame) : KeepsCore (picFrame src f) :=
  keepsCore_broadcast src (.pic f) (keepsCore_otherPic src f)

theorem keepsCore_otherAsk (src : Station) : KeepsCore (otherAsk src) := by
  intro n hn
  unfold otherAsk
  extract_lets n'
  repeat' split
  · exact hn
  · exact keepsCore_unfound n' hn
  all_goals exact hn

theorem keepsCore_joiningSnapshot (src dst : Station) (p : SnapPart) : KeepsCore (joiningSnapshot src dst p) := by
  intro n hn
  unfold joiningSnapshot
  extract_lets toMe w n'
  repeat' split
  · exact keepsCore_unfound n' hn
  · exact keepsCore_takePart src p n' hn
  · exact hn

theorem keepsCore_snapshot (src dst : Station) (p : SnapPart) : KeepsCore fun n =>
    if n.core.node.joining? then settleNode (joiningSnapshot src dst p (completed src n))
    else addressed src dst (fun _ _ => none) n := by
  intro n hn
  simp only []
  split
  · exact keepsCore_joiningSnapshot src dst p _ ((completed_core src n).symm ▸ hn)
  · exact (addressed_core src dst _ n).symm ▸ hn

theorem keepsCore_objected : KeepsCore objected := by
  intro n hn
  unfold objected
  extract_lets w
  split
  · exact keepsCore_leave rfl rfl ⟨n.core, w⟩ hn
  · exact hn

theorem keepsCore_judgedFailed (f : RawFrame) (ranOn : Bool) : KeepsCore (judgedFailed f ranOn) := by
  intro n hn
  unfold judgedFailed
  split
  · exact hn
  · extract_lets last w
    repeat' split
    · exact hn
    · exact keepsCore_objected ⟨n.core, _⟩ hn
    all_goals exact hn

theorem keepsCore_waitExpiry (p : Waiting) : KeepsCore (waitExpiry p) := by
  intro n hn
  unfold waitExpiry
  repeat' split
  · exact hn
  · extract_lets w
    split
    · exact hn
    · exact keepsCore_returned _ _ ⟨n.core, _⟩ hn
  · exact hn
  · exact keepsCore_returned _ _ ⟨n.core, _⟩ hn

theorem keepsCore_limitExpiry : KeepsCore limitExpiry := by
  intro n hn
  unfold limitExpiry
  split
  · exact hn
  · extract_lets w
    repeat' split
    · exact hn
    · exact n.core.move_ok (st := .founding) rfl (by decide)
    · exact hn

theorem keepsCore_detachedExpiry : KeepsCore fun n => settleNode (detachedExpiry n) := by
  intro n hn
  show (detachedExpiry n).core.ok = true
  unfold detachedExpiry
  split
  · exact hn
  · exact n.core.move_ok (st := .joining) rfl (by decide)

theorem keepsCore_discarded (src : Station) (cls kind dest : Nat) : KeepsCore (discarded src cls kind dest) := by
  intro n hn
  unfold discarded
  extract_lets n'
  split <;> exact (completed_core src n).symm ▸ hn

theorem keepsCore_resetNode (cause : ResetCause) (cut : Bool) : KeepsCore (resetNode cause cut) :=
  fun _ _ => Core.ok_of_none rfl rfl rfl

theorem keepsCore_startNode (straps : Straps) (memory : Option (List Byte)) (keys : Keys) :
    KeepsCore (startNode straps memory keys) := by
  intro n hn
  unfold startNode
  split
  · exact hn
  · next hr =>
    have hr : n.core.node = .reset := by simpa using hr
    have hp : n.core.pic = none := by
      have h1 := (n.core.ok_iff.mp hn).1
      rw [Core.serving, hr] at h1
      exact Option.not_isSome_iff_eq_none.mp (h1 ▸ Bool.false_ne_true)
    extract_lets w0
    split
    · exact Core.ok_of_none hp rfl rfl
    · exact Core.ok_of_none rfl rfl rfl

theorem keepsCore_otherTally (src : Station) (shift : Nat) (t : TallyVals) : KeepsCore (otherTally src shift t) := by
  intro n hn
  unfold otherTally
  split <;> exact hn

/-! ## Every command -/

/-- A command works on the blocks alone, or on the whole node in a way that keeps the core's invariant. -/
theorem exec_sameCore_or_keepsCore (i : Instr) (s : State) :
    (∃ t, exec i s = .next t ∧ t.node.core = s.node.core) ∨ ∃ f, exec i s = onNode f s ∧ KeepsCore f := by
  cases i
  case reset cause cut => exact .inr ⟨_, rfl, keepsCore_resetNode cause cut⟩
  case resetEnd straps memory keys => exact .inr ⟨_, rfl, keepsCore_startNode straps memory keys⟩
  case frameJudgedFailed f ranOn => exact .inr ⟨_, rfl, keepsCore_judgedFailed f ranOn⟩
  case attemptFailed => exact .inr ⟨_, rfl, keepsCore_failAttempt⟩
  case frameOutcome m => exact .inr ⟨_, rfl, keepsCore_frameOutcome m⟩
  case lineWaitLimitExpiry p => exact .inr ⟨_, rfl, keepsCore_waitExpiry p⟩
  case unknownFrame src cls kind dest => exact .inr ⟨_, rfl, keepsCore_discarded src cls kind dest⟩
  case hello | status | drop | take | takeSet | give | seize | shiftOpen | closeCall | closeCommit | closeAbandon | hireOpen
      | hireState | hireClose | hireReclaim =>
    exact .inr ⟨_, rfl, keepsCore_picFrame _ _⟩
  case snapshotAsk src => exact .inr ⟨_, rfl, keepsCore_broadcast src _ (keepsCore_otherAsk src)⟩
  case snapshot src dst p => exact .inr ⟨_, rfl, keepsCore_snapshot src dst p⟩
  case hireCommandStart | hireCommandStop | hireCommandHold | hireCommandResume | hireCommandCancel | hireCommandExtra
      | hireCommandCash | hireCommandUnpaid | authReply =>
    exact .inr ⟨_, rfl, keepsCore_of_same (decided_core _ _ _)⟩
  case closeReady | fareReport | alert | call | callAnswer | callHeld | callResumed | callEnd | journalRead | journalRelease =>
    exact .inr ⟨_, rfl, keepsCore_of_same (addressed_core _ _ _)⟩
  case distance | time => exact .inr ⟨_, rfl, keepsCore_broadcast _ _ (keepsCore_of_same fun _ => rfl)⟩
  case tally src shift t => exact .inr ⟨_, rfl, keepsCore_broadcast src _ (keepsCore_otherTally src shift t)⟩
  case voice src dst samples =>
    cases dst with
    | station d => exact .inr ⟨_, rfl, keepsCore_of_same (addressed_core src d _)⟩
    | all => exact .inr ⟨_, rfl, keepsCore_broadcast src _ (keepsCore_of_same fun _ => rfl)⟩
  case snapshotLimitExpiry => exact .inr ⟨_, rfl, keepsCore_limitExpiry⟩
  case detachedTimerExpiry => exact .inr ⟨_, rfl, keepsCore_detachedExpiry⟩
  all_goals exact .inl ⟨_, rfl, rfl⟩

theorem exec_keepsCore {i : Instr} {s t : State} (h : s.ok = true) (he : exec i s = .next t) : t.ok = true := by
  rcases exec_sameCore_or_keepsCore i s with ⟨t', ht, hc⟩ | ⟨f, hf, hk⟩
  · obtain rfl : t' = t := Host.Outcome.next.inj (ht.symm.trans he)
    exact (congrArg Core.ok hc).trans h
  · rw [hf, onNode_next] at he
    exact Host.Outcome.next.inj he ▸ hk s.node h

/-- Settles O4: every command is work on the blocks, which leaves the core, or keeps the core's invariant; a frame applied keeps the picture's laws edit by edit. -/
theorem coreLawKeptByEveryStep : Obligations.CoreLawKeptByEveryStep := by
  intro s t h he
  unfold step at he
  split at he
  · exact Host.Outcome.next.inj he ▸ h
  · next rest _ => exact exec_keepsCore (s := { s with pending := rest }) h he

/-- Settles O3: both laws are evaluated on the one state after reset. -/
theorem lawsHoldAtReset : Obligations.LawsHoldAtReset := ⟨rfl, rfl⟩

end Sys2Proof.Machine

/-! What each frame does to a picture, frame by frame (01 R6 to R19). -/

namespace Sys2Proof

open Machine (InServiceHead MayTake openChecks)

/-! ## Counting (01 R7) -/

theorem Picture.counts_of_not_status {p : Picture} {src : Station} {f : PicFrame} (h : ∀ st, f ≠ .status st) :
    p.counts src f = true := by
  cases f
  case status st => exact absurd rfl (h st)
  all_goals rfl

theorem Picture.apply_seq_status (p : Picture) (src : Station) (st : StatusPay) : (p.apply src (.status st)).1.seq =
    if p.entry src = (p.apply src (.status st)).1.entry src then p.seq else p.seq + 1 := by
  simp only [Picture.apply, Picture.counts, bne_iff_ne, ite_not]
  rfl

/-- Settles O19: no edit of a frame touches digest or sequence, and `counts` says when the sequence advances. -/
theorem pictureSequenceCountsFrames : Obligations.PictureSequenceCountsFrames := by
  intro p src f
  refine ⟨rfl, rfl, (p.edited_effect src f).digest_seq.1, fun h => ?_, ?_⟩
  · simp only [Picture.apply, Picture.counts_of_not_status h, if_true]
  · rintro st rfl
    rw [Picture.apply_seq_status]
    exact ⟨fun h => if_pos h.symm, fun h => if_neg (Ne.symm h)⟩

/-! ## HELLO, STATUS and DROP (01 R9 to R11) -/

theorem Picture.entry_withRoster_put (p : Picture) (e : RosterEntry) (t : Station) :
    ({ p with roster := putEntry e p.roster } : Picture).entry t = if t = e.station then some e else p.entry t :=
  find_putEntry e t p.roster

theorem Picture.entry_station {p : Picture} {s : Station} {e : RosterEntry} (h : p.entry s = some e) : e.station = s := by
  simpa using List.find?_some h

@[simp] theorem RosterEntry.withStatus_station (e : RosterEntry) (st : StatusPay) : (e.withStatus st).station = e.station := rfl

theorem HelloPay.inRange_iff (h : HelloPay) : h.inRange = true ↔
    h.role ≠ none ∧ h.mask &&& 0xC0#8 = 0#8 ∧ ∀ t, h.tag = some t → t.seq ≠ 0 := by
  unfold HelloPay.inRange
  cases h.role <;> cases h.tag <;> simp [SeatSet.valid, Tag.inRange]

theorem StatusPay.inRange_iff (st : StatusPay) : st.inRange = true ↔ (∃ x, st.state = some x ∧ x ≠ .joining) ∧ st.fwd ≤ 4 := by
  unfold StatusPay.inRange
  rcases st.state with _ | _ | _ | _ <;> simp

theorem Picture.hello_inRange {p : Picture} {src : Station} {h : HelloPay} (hr : h.inRange = true) :
    p.hello src h = { p with roster := putEntry (helloEntry src h (p.entry src)) p.roster } := if_pos hr

theorem Picture.hello_outOfRange {p : Picture} {src : Station} {h : HelloPay} (hr : ¬h.inRange = true) :
    p.hello src h = p := if_neg hr

theorem Picture.status_inRange {p : Picture} {src : Station} {st : StatusPay} {e : RosterEntry} (he : p.entry src = some e)
    (hr : st.inRange = true) : p.status src st = { p with roster := putEntry (e.withStatus st) p.roster } := by
  simp [Picture.status, he, hr]

theorem Picture.status_none {p : Picture} {src : Station} {st : StatusPay} (h : p.entry src = none ∨ ¬st.inRange = true) :
    p.status src st = p := by
  unfold Picture.status
  cases he : p.entry src with
  | none => rfl
  | some e => exact if_neg (h.resolve_left (by simp [he]))

theorem rosterFrames_hello (p : Picture) (src : Station) (h : HelloPay) :
    (∀ r, h.role = some r → h.mask &&& 0xC0#8 = 0#8 → (∀ t, h.tag = some t → t.seq ≠ 0) →
      ∃ e, (p.effect src (.hello h)).1.entry src = some e ∧ e.station = src ∧ e.role = r ∧ e.sign = h.sign ∧
        e.odometer = h.odometer ∧ e.mask = h.mask ∧ e.digest = h.digest ∧ e.state = .joining ∧ e.announced = h.tag ∧
        (p.entry src = none → e.lockout = false ∧ e.halfA = false ∧ e.halfB = false ∧ e.fwd = 0) ∧
        (∀ old, p.entry src = some old → e.lockout = old.lockout ∧ e.halfA = old.halfA ∧ e.halfB = old.halfB ∧ e.fwd = old.fwd)) ∧
    (∀ t, t ≠ src → (p.effect src (.hello h)).1.entry t = p.entry t) ∧
    { (p.effect src (.hello h)).1 with roster := p.roster } = p ∧
    (h.role = none ∨ h.mask &&& 0xC0#8 ≠ 0#8 ∨ (∃ t, h.tag = some t ∧ t.seq = 0) → (p.effect src (.hello h)).1 = p) := by
  simp only [Picture.effect]
  by_cases hr : h.inRange = true
  · rw [Picture.hello_inRange hr]
    obtain ⟨h1, h2, h3⟩ := h.inRange_iff.mp hr
    refine ⟨fun r hrole _ _ => ⟨helloEntry src h (p.entry src), ?_, rfl, ?_, rfl, rfl, rfl, rfl, rfl, rfl, ?_, ?_⟩, ?_, rfl, ?_⟩
    · exact (p.entry_withRoster_put _ src).trans (if_pos rfl)
    · simp [helloEntry, hrole]
    · intro hn
      simp [helloEntry, hn]
    · intro old ho
      simp [helloEntry, ho]
    · exact fun t ht => (p.entry_withRoster_put _ t).trans (if_neg ht)
    · rintro (hn | hn | ⟨t, ht, hs⟩)
      · exact absurd hn h1
      · exact absurd h2 hn
      · exact absurd hs (h3 t ht)
  · rw [Picture.hello_outOfRange hr]
    exact ⟨fun r h1 h2 h3 => absurd (h.inRange_iff.mpr ⟨by simp [h1], h2, h3⟩) hr, fun _ _ => rfl, rfl, fun _ => rfl⟩

theorem rosterFrames_status (p : Picture) (src : Station) (st : StatusPay) :
    (∀ e x, p.entry src = some e → st.state = some x → x ≠ .joining → st.fwd ≤ 4 →
      (p.effect src (.status st)).1.entry src =
        some { e with state := x, lockout := st.lockout, halfA := st.halfA, halfB := st.halfB, fwd := st.fwd }) ∧
    (∀ t, t ≠ src → (p.effect src (.status st)).1.entry t = p.entry t) ∧
    { (p.effect src (.status st)).1 with roster := p.roster } = p ∧
    (p.entry src = none ∨ st.state = none ∨ st.state = some .joining ∨ 4 < st.fwd → (p.effect src (.status st)).1 = p) := by
  simp only [Picture.effect]
  refine ⟨fun e x he hx hj hf => ?_, fun t ht => ?_, ?_, fun h => Picture.status_none ?_⟩
  · have hr := st.inRange_iff.mpr ⟨⟨x, hx, hj⟩, hf⟩
    rw [Picture.status_inRange he hr, Picture.entry_withRoster_put, RosterEntry.withStatus_station,
      if_pos (Picture.entry_station he).symm]
    simp [RosterEntry.withStatus, hx]
  · cases he : p.entry src with
    | none => rw [Picture.status_none (.inl he)]
    | some e =>
      by_cases hr : st.inRange = true
      · rw [Picture.status_inRange he hr, Picture.entry_withRoster_put, RosterEntry.withStatus_station]
        exact if_neg fun h => ht (h.trans (Picture.entry_station he))
      · rw [Picture.status_none (.inr hr)]
  · unfold Picture.status
    repeat' split
    all_goals rfl
  · rw [st.inRange_iff]
    refine h.imp id ?_
    rintro (h | h | h) ⟨⟨x, hx, hj⟩, hf⟩
    · simp [h] at hx
    · exact hj (Option.some.inj (hx.symm.trans h))
    · omega

theorem Picture.entry_withoutStation (p : Picture) (t x : Station) :
    (p.roster.filter fun e => e.station != t).find? (fun e => e.station == x) = if x = t then none else p.entry x := by
  rw [List.find?_filter]
  split
  · next h =>
    subst h
    simp
  · next h =>
    refine congrArg (List.find? · p.roster) (funext fun e => ?_)
    by_cases he : e.station = x
    · simp [he, h]
    · simp [he]

theorem rosterFrames_drop (p : Picture) (src t : Station) (ht : p.entry t ≠ none) : ∃ q, p.effect src (.drop t) = (q, .done) ∧
    q.entry t = none ∧ (∀ x, x ≠ t → q.entry x = p.entry x) ∧
    (∀ w, q.claim w = if (p.claim w).holder = some t ∧ (w = .floor ∨ w = .lane ∨ w = .close ∨ w = .drain)
      then ⟨none, 0⟩ else p.claim w) ∧
    q.hirings = (p.hirings.map fun h => match h.state with
      | .active st => if h.tag.home = t then { h with state := .orphaned st } else h
      | .orphaned _ => h) ∧
    q.shift = p.shift := by
  refine ⟨_, congrArg (·, PicResult.done) (if_pos (Option.isSome_iff_ne_none.mpr ht)), ?_, fun x hx => ?_, fun w => ?_, ?_, rfl⟩
  · exact (p.entry_withoutStation t t).trans (if_pos rfl)
  · exact (p.entry_withoutStation t x).trans (if_neg hx)
  · exact p.claims.get_dropHolder t w
  · refine congrArg (List.map · p.hirings) (funext fun h => ?_)
    unfold HiringEntry.orphan
    cases h.state <;> rfl

/-- Settles O20, frame by frame: what HELLO, STATUS and DROP leave of the roster, and the words of no name. -/
theorem rosterFrames : Obligations.RosterFrames := by
  refine ⟨fun p src h _ => rosterFrames_hello p src h, fun p src st _ => rosterFrames_status p src st, rosterFrames_drop,
    fun p src t ht => ?_, fun p src tag => ⟨rfl, rfl, rfl⟩, fun p src seats tag h => ?_⟩
  · exact congrArg (·, PicResult.done) (if_neg (by simp [ht]))
  · have hr : (SeatSet.valid seats && tag.inRange) = false := by
      rcases h with h | h <;> simp [SeatSet.valid, Tag.inRange, h]
    simp [Picture.effect, Picture.takeSet, hr]

/-! ## TAKE, GIVE and SEIZE (01 R12 to R15) -/

theorem Picture.mayTake_iff (p : Picture) (src : Station) (w : WordId) (tag : BitVec 16) :
    p.mayTake src w tag = true ↔ MayTake p src w tag := by
  cases w
  case floor =>
    simp only [Picture.mayTake, MayTake, Bool.and_eq_true, Bool.or_eq_true, Picture.present_iff, decide_eq_true_eq]
    refine and_congr_left fun _ => ⟨?_, ?_⟩
    · rintro (⟨e, he, hr, hs⟩ | ⟨e, he, hr, hs⟩)
      · exact ⟨e, he, .inl hr, hs⟩
      · exact ⟨e, he, .inr hr, hs⟩
    · rintro ⟨e, he, hr | hr, hs⟩
      · exact .inl ⟨e, he, hr, hs⟩
      · exact .inr ⟨e, he, hr, hs⟩
  case lane => exact p.cn40_iff src
  case drain =>
    simp only [Picture.mayTake, MayTake]
    cases p.entry src <;> simp [RosterEntry.inServiceAs, or_and_right]
  case assist => simp [Picture.mayTake, MayTake, Picture.isHead_iff]
  all_goals simp [Picture.mayTake, MayTake]

theorem wordFrames_give (p : Picture) (src : Station) (w : WordId) :
    ((p.claim w).holder = some src → w ≠ .shift → w ≠ .close →
      p.effect src (.give (some w)) = ({ p with claims := p.claims.set w ⟨none, 0⟩ }, .freed)) ∧
    ((p.claim w).holder ≠ some src ∨ w = .shift ∨ w = .close → p.effect src (.give (some w)) = (p, .notFreed)) := by
  have hc : (p.holds w src && w != .shift && w != .close) = true ↔ (p.claim w).holder = some src ∧ w ≠ .shift ∧ w ≠ .close := by
    simp [Picture.holds_iff, and_assoc]
  constructor
  · exact fun h1 h2 h3 => if_pos (hc.mpr ⟨h1, h2, h3⟩)
  · intro h
    refine if_neg fun hh => ?_
    obtain ⟨h1, h2, h3⟩ := hc.mp hh
    exact h.elim (absurd h1) fun h => h.elim h2 h3

theorem wordFrames_seize (p : Picture) (src : Station) (w : WordId) (tag : BitVec 16) :
    (InServiceHead p src → w = .floor ∧ tag.toNat ≤ 16 ∨ w = .lane →
      p.effect src (.seize (some w) tag) = ({ p with claims := p.claims.set w ⟨some src, tag⟩ }, .won)) ∧
    (¬InServiceHead p src ∨ ¬(w = .floor ∧ tag.toNat ≤ 16 ∨ w = .lane) →
      p.effect src (.seize (some w) tag) = (p, .busy)) := by
  simp only [Picture.effect, Picture.seize]
  rw [← Picture.isHead_iff]
  cases p.isHead src <;> cases w <;> simp [Picture.hold]

theorem wordFrames_take (p : Picture) (src : Station) (w : WordId) (tag : BitVec 16) :
    (¬MayTake p src w tag → p.effect src (.take (some w) tag) = (p, .busy)) ∧
    (MayTake p src w tag → (p.claim w).holder = none →
      p.effect src (.take (some w) tag) = ({ p with claims := p.claims.set w ⟨some src, tag⟩ }, .won)) ∧
    (MayTake p src w tag → (p.claim w).holder = some src → p.effect src (.take (some w) tag) = (p, .already)) ∧
    (∀ t, MayTake p src w tag → (p.claim w).holder = some t → t ≠ src → p.effect src (.take (some w) tag) = (p, .busy)) := by
  simp only [Picture.effect, Picture.take]
  rw [← Picture.mayTake_iff]
  refine ⟨fun hm => ?_, fun hm hf => ?_, fun hm hh => ?_, fun t hm hh ht => ?_⟩
  · simp [hm]
  · simp [hm, (p.free_iff w).mpr hf, Picture.hold]
  · simp [hm, Picture.free, Claim.isFree, hh, (p.holds_iff w src).mpr hh]
  · simp [hm, Picture.free, Claim.isFree, Picture.holds, Claim.heldBy, hh, ht]

/-- Settles O21: the right to a word is the table's, and each operation answers by it and by the holder. -/
theorem wordFrames : Obligations.WordFrames :=
  ⟨Claims.get_set, wordFrames_give, wordFrames_seize, wordFrames_take⟩

/-! ## TAKE_SET (01 R13) -/

theorem SeatSet.mem_seats (s : SeatSet) (i : Fin 6) : i ∈ SeatSet.seats s ↔ s.getLsbD i.val = true := by
  have hi : i ∈ allSeats := by cases i using seat_cases <;> decide
  simp [SeatSet.seats, SeatSet.has, hi]

theorem Picture.holdSeats_others (p : Picture) (src : Station) (tag : Tag) (l : List (Fin 6)) :
    { p.holdSeats src tag l with claims := p.claims } = p := by
  induction l generalizing p with
  | nil => rfl
  | cons i l ih => exact congrArg (fun q : Picture => { q with claims := p.claims }) (ih (p.hold (.seat i) src tag.code))

theorem Picture.claim_holdSeats (p : Picture) (src : Station) (tag : Tag) (l : List (Fin 6)) (w : WordId) :
    (p.holdSeats src tag l).claim w = if ∃ i ∈ l, w = .seat i then ⟨some src, tag.code⟩ else p.claim w := by
  induction l generalizing p with
  | nil => simp [Picture.holdSeats]
  | cons i l ih =>
    have hcons : p.holdSeats src tag (i :: l) = (p.hold (.seat i) src tag.code).holdSeats src tag l := rfl
    rw [hcons, ih, Picture.claim_hold]
    by_cases hw : w = .seat i
    · simp [hw]
    · simp [hw]

theorem Picture.takeSet_wrong {p : Picture} {src : Station} {seats : SeatSet} {tag : Tag} (hv : seats &&& 0xC0#8 = 0#8)
    (ht : tag.seq ≠ 0) : (!(SeatSet.valid seats && tag.inRange && seats != 0 && tag.home == src && p.cn40 src)) = true ↔
      ¬(seats ≠ 0 ∧ tag.home = src ∧ p.cn40 src = true) := by
  rw [Bool.not_eq_true', ← Bool.not_eq_true]
  simp [SeatSet.valid, Tag.inRange, hv, ht, and_assoc]

/-- Settles O22: the three tests of TAKE_SET, and what the series of holds leaves word by word. -/
theorem takeSetTakesAllOrNothing : Obligations.TakeSetTakesAllOrNothing := by
  intro p src seats tag hv ht right mine free inSet
  have hwrong := Picture.takeSet_wrong (p := p) (src := src) hv ht
  have hall : (SeatSet.seats seats).all (p.seatUnder src tag) = true ↔ ∀ i, inSet i → mine i := by
    simp only [List.all_eq_true, SeatSet.mem_seats, Picture.seatUnder_iff, inSet, mine]
  have hfit : ((SeatSet.seats seats).all fun i => p.free (.seat i) || p.seatUnder src tag i) = true ↔
      ∀ i, inSet i → free i ∨ mine i := by
    simp only [List.all_eq_true, SeatSet.mem_seats, Bool.or_eq_true, Picture.seatUnder_iff, Picture.free_iff, inSet, mine, free]
  simp only [Picture.effect, Picture.takeSet]
  refine ⟨fun hr => ?_, fun hr hm => ?_, fun hr hb => ?_, fun hr hm hn => ?_⟩
  · rw [if_pos (hwrong.mpr hr)]
  · rw [if_neg (fun h => hwrong.mp h hr), if_pos (hall.mpr hm)]
  · obtain ⟨i, hi, h1, h2⟩ := hb
    rw [if_neg (fun h => hwrong.mp h hr), if_neg (fun h => h1 (hall.mp h i hi)),
      if_neg (fun h => (hfit.mp h i hi).elim h2 h1)]
  · obtain ⟨i, hi, h1⟩ := hn
    rw [if_neg (fun h => hwrong.mp h hr), if_neg (fun h => h1 (hall.mp h i hi)),
      if_pos (hfit.mpr fun i hi => (hm i hi).symm)]
    refine ⟨_, rfl, p.holdSeats_others .., fun i hi => ?_, fun i hi => ?_, fun w hw => ?_⟩
    all_goals rw [Picture.claim_holdSeats]
    · exact if_pos ⟨i, (SeatSet.mem_seats _ _).mpr hi, rfl⟩
    · refine if_neg ?_
      rintro ⟨j, hj, hij⟩
      exact hi (WordId.seat.inj hij ▸ (SeatSet.mem_seats _ _).mp hj)
    · refine if_neg ?_
      rintro ⟨j, -, hij⟩
      exact hw j hij

/-! ## Shift frames (01 R16 to R19) -/

theorem Picture.free_false_iff (p : Picture) (w : WordId) : p.free w = false ↔ (p.claim w).holder ≠ none := by
  rw [← Bool.not_eq_true, p.free_iff w]

theorem shiftFrames_open (p : Picture) (src : Station) (n d : Nat) (o : Stamp) :
    let ok : Prop := InServiceHead p src ∧ (p.claim .shift).holder = none ∧ 1 ≤ n ∧ n ≤ 65535 ∧ 1 ≤ d ∧ d ≤ 9999
    (ok → p.effect src (.shiftOpen n d o) =
      ({ p with claims := p.claims.set .shift ⟨some src, BitVec.ofNat 16 n⟩, shift := some ⟨n, d, o⟩ }, .done)) ∧
    (¬ok → ∃ r, p.effect src (.shiftOpen n d o) = (p, .refused r)) := by
  intro ok
  have hok : (p.isHead src && p.free .shift && decide (1 ≤ n ∧ n ≤ 65535 ∧ 1 ≤ d ∧ d ≤ 9999)) = true ↔ ok := by
    simp only [Bool.and_eq_true, Picture.isHead_iff, Picture.free_iff, decide_eq_true_eq, and_assoc, ok]
  exact ⟨fun h => if_pos (hok.mpr h), fun h => ⟨_, if_neg (mt hok.mp h)⟩⟩

theorem shiftFrames_call (p : Picture) (src : Station) (n : Nat) (force : Bool) :
    let ok : Prop := InServiceHead p src ∧ (p.claim .shift).holder ≠ none ∧ (p.claim .close).holder = none ∧
      (p.claim .shift).tag.toNat = n
    (ok → p.effect src (.closeCall n force) =
      ({ p with claims := p.claims.set .close ⟨some src, BitVec.ofNat 16 n⟩ }, .done)) ∧
    (¬ok → ∃ r, p.effect src (.closeCall n force) = (p, .refused r)) := by
  intro ok
  have hok : (p.isHead src && !p.free .shift && p.free .close && (p.claim .shift).tag.toNat == n) = true ↔ ok := by
    simp only [Bool.and_eq_true, Bool.not_eq_true', Picture.isHead_iff, Picture.free_iff, Picture.free_false_iff, beq_iff_eq,
      and_assoc, ok]
  refine ⟨fun h => if_pos (hok.mpr h), fun h => ?_⟩
  simp only [Picture.effect, Picture.closeCall, if_neg (mt hok.mp h)]
  repeat' split
  all_goals exact ⟨_, rfl⟩

theorem shiftFrames_commit (p : Picture) (src : Station) (n : Nat) (force : Bool) :
    ((p.claim .close).holder = some src ∧ (p.claim .close).tag.toNat = n →
      p.effect src (.closeCommit n force) =
        ({ p with claims := (p.claims.set .shift ⟨none, 0⟩).set .close ⟨none, 0⟩ }, .done)) ∧
    (¬((p.claim .close).holder = some src ∧ (p.claim .close).tag.toNat = n) →
      ∃ r, p.effect src (.closeCommit n force) = (p, .refused r)) := by
  have hok : (p.holds .close src && (p.claim .close).tag.toNat == n) = true ↔
      (p.claim .close).holder = some src ∧ (p.claim .close).tag.toNat = n := by
    simp only [Bool.and_eq_true, Picture.holds_iff, beq_iff_eq]
  exact ⟨fun h => if_pos (hok.mpr h), fun h => ⟨_, if_neg (mt hok.mp h)⟩⟩

/-- Settles O23: each shift frame's test as its rule says it, and the two outcomes. -/
theorem shiftFrames : Obligations.ShiftFrames := fun p src n =>
  ⟨fun d o => shiftFrames_open p src n d o, fun force => shiftFrames_call p src n force,
    fun h => if_pos ((p.holds_iff .close src).mpr h), fun h => ⟨_, if_neg (mt (p.holds_iff .close src).mp h)⟩,
    fun force => shiftFrames_commit p src n force⟩

end Sys2Proof

/-! The hiring frames in the picture (01 R20 to R23). -/

namespace Sys2Proof

open Machine (InServiceHead MayTake openChecks)

/-! ## The nine checks (01 R20) -/

/-- The reason of the first check that fails. -/
def firstFailed (l : List (Nat × Bool × Reason)) : Option Reason := (l.find? fun c => !c.2.1).map fun c => c.2.2

theorem firstFailed_nil : firstFailed [] = none := rfl

theorem firstFailed_cons (k : Nat) (b : Bool) (r : Reason) (l : List (Nat × Bool × Reason)) :
    firstFailed ((k, b, r) :: l) = if (!b) = true then some r else firstFailed l := by
  cases b <;> rfl

theorem firstFailed_some {l : List (Nat × Bool × Reason)} {c : Nat × Bool × Reason} (h : (l.find? fun c => !c.2.1) = some c) :
    firstFailed l = some c.2.2 := congrArg (Option.map fun c : Nat × Bool × Reason => c.2.2) h

theorem firstFailed_none {l : List (Nat × Bool × Reason)} (h : (l.find? fun c => !c.2.1) = none) : firstFailed l = none :=
  congrArg (Option.map fun c : Nat × Bool × Reason => c.2.2) h

/-- A check that is only made of a HIRE_OPEN. -/
theorem firstFailed_skip (full : Bool) (k : Nat) (b : Bool) (r : Reason) (l : List (Nat × Bool × Reason)) :
    firstFailed ((if full then [(k, b, r)] else []) ++ l) = if (full && !b) = true then some r else firstFailed l := by
  cases full <;> cases b <;> rfl

theorem Picture.modeFits_shared (p : Picture) : p.modeFits (some .shared) = p.hirings.all fun h => h.mode == .shared := by
  have hm (h : HiringEntry) : (h.mode == .shared) = !(h.mode == .solo) := by cases h.mode <;> rfl
  simp only [Picture.modeFits, hm, List.not_any_eq_all_not]

theorem Picture.seatsHeld_eq (p : Picture) (src : Station) (tag : Tag) (seats : SeatSet) :
    (SeatSet.seats seats).all (p.seatUnder src tag) =
      allSeats.all fun i => !seats.getLsbD i.val || p.claim (.seat i) == ⟨some src, tag.code⟩ := by
  simp only [SeatSet.seats, List.all_filter]
  rfl

/-- The checks that a frame makes: all nine of a HIRE_OPEN, six of a HIRE_RECLAIM. -/
def checksMade (full : Bool) (l : List (Nat × Bool × Reason)) : List (Nat × Bool × Reason) :=
  if full then l else l.filter fun c => [2, 3, 4, 7, 8, 9].contains c.1

theorem checksMade_eq (full : Bool) (c1 c2 c3 c4 c5 c6 c7 c8 c9 : Bool × Reason) :
    checksMade full [(1, c1), (2, c2), (3, c3), (4, c4), (5, c5), (6, c6), (7, c7), (8, c8), (9, c9)] =
      (if full then [(1, c1)] else []) ++ (2, c2) :: (3, c3) :: (4, c4) :: ((if full then [(5, c5)] else []) ++
        ((if full then [(6, c6)] else []) ++ [(7, c7), (8, c8), (9, c9)])) := by
  cases full <;> rfl

theorem Picture.openCheck_eq (p : Picture) (full : Bool) (src : Station) (tag : Tag) (mode : Option Mode) (seats : SeatSet) :
    p.openCheck full src tag mode seats = firstFailed (checksMade full (openChecks p src tag mode seats)) := by
  unfold openChecks
  rw [checksMade_eq, ← Picture.seatsHeld_eq]
  simp only [firstFailed_skip, firstFailed_cons, firstFailed_nil]
  rcases mode with _ | _ | _
  case' some.shared => simp only [← Picture.modeFits_shared]
  all_goals
    simp only [Picture.openCheck, Picture.free, Claim.isFree, Bool.not_not, Option.not_isSome]
    rfl

/-! ## HIRE_OPEN and HIRE_RECLAIM (01 R20, R23) -/

theorem hireOpen_checks (p : Picture) (src : Station) (tag : Tag) (mode : Option Mode) (seats : SeatSet) (start : Stamp) :
    let failed := (openChecks p src tag mode seats).find? fun c => !c.2.1
    (∀ k r, failed = some (k, false, r) → p.effect src (.hireOpen tag mode seats start) = (p, .refused r)) ∧
    (failed = none → ∃ m, mode = some m ∧ p.effect src (.hireOpen tag mode seats start) =
      ({ p with hirings := p.hirings ++ [⟨tag, m, seats, .active .running, start⟩] }, .done)) := by
  intro failed
  have he := p.openCheck_eq true src tag mode seats
  simp only [Picture.effect, Picture.hireOpen]
  constructor
  · intro k r hf
    rw [he.trans (firstFailed_some hf)]
  · intro hf
    have hn := he.trans (firstFailed_none hf)
    obtain ⟨m, rfl⟩ := Picture.modeFits_some (Picture.openCheck_none hn).2.2
    rw [hn]
    exact ⟨m, rfl, rfl⟩

/-- A HIRE_RECLAIM's seat set names no seat. -/
theorem SeatSet.unnamed_iff (seats : SeatSet) :
    (!(SeatSet.valid seats && seats != 0)) = true ↔ seats = 0 ∨ seats &&& 0xC0#8 ≠ 0#8 := by
  rw [Bool.not_eq_true', ← Bool.not_eq_true]
  simp only [SeatSet.valid, Bool.and_eq_true, beq_iff_eq, bne_iff_ne]
  rw [Decidable.not_and_iff_not_or_not, Decidable.not_not, or_comm]

theorem Picture.hireReclaim_entry {p : Picture} {src : Station} {tag : Tag} {h : HiringEntry} (hc : p.cn40 src = true)
    (hh : p.hiring tag = some h) (st : Option HireState) (mode : Option Mode) (seats : SeatSet) (start : Stamp) :
    p.hireReclaim src tag st mode seats start =
      if tag.home ≠ src then (p, .refused .wrongState)
      else if seats = 0 ∨ seats &&& 0xC0#8 ≠ 0#8 then (p, .refused .noSeats)
      else match st, mode, h.state with
        | some _, some _, .orphaned prior => ((p.setHiring tag (.active prior)).unannounce src, .done)
        | some x, some _, .active _ => ((p.setHiring tag (.active x)).unannounce src, .done)
        | _, _, _ => (p, .refused .wrongState) := by
  simp only [Picture.hireReclaim, hc, hh, Bool.not_true, Bool.false_eq_true, if_false, SeatSet.unnamed_iff]
  refine ite_congr rfl (fun _ => rfl) fun _ => ite_congr rfl (fun _ => rfl) fun _ => ?_
  cases st <;> cases mode <;> cases h.state <;> rfl

theorem Picture.hireReclaim_new {p : Picture} {src : Station} {tag : Tag} (hc : p.cn40 src = true)
    (hh : p.hiring tag = none) (st : Option HireState) (mode : Option Mode) (seats : SeatSet) (start : Stamp) :
    p.hireReclaim src tag st mode seats start =
      match p.openCheck false src tag mode seats, st, mode with
      | some r, _, _ => (p, .refused r)
      | none, some x, some m => ((p.addHiring ⟨tag, m, seats, .active x, start⟩).unannounce src, .done)
      | none, _, _ => (p, .refused .wrongState) := by
  simp only [Picture.hireReclaim, hc, hh, Bool.not_true, Bool.false_eq_true, if_false]
  cases ho : p.openCheck false src tag mode seats with
  | some r => rfl
  | none =>
    obtain ⟨m, rfl⟩ := Picture.modeFits_some (Picture.openCheck_none ho).2.2
    cases st <;> rfl

/-- Settles O24: the model's checks are the rule's list of checks, and HIRE_RECLAIM by the entry its tag has. -/
theorem hireOpenAndReclaim : Obligations.HireOpenAndReclaim := by
  refine ⟨hireOpen_checks, fun p src tag st mode seats start => ?_⟩
  intro done become
  simp only [Picture.effect]
  cases hc : p.cn40 src with
  | false => simp [Picture.hireReclaim, hc]
  | true =>
    rw [if_neg (show ¬true = false from nofun)]
    cases hh : p.hiring tag with
    | some h =>
      rw [Picture.hireReclaim_entry hc hh]
      rfl
    | none =>
      rw [Picture.hireReclaim_new hc hh, p.openCheck_eq false]
      simp only [checksMade, Bool.false_eq_true, if_false]
      cases hf : ((openChecks p src tag mode seats).filter fun c => [2, 3, 4, 7, 8, 9].contains c.1).find? fun c => !c.2.1 with
      | some c =>
        rw [firstFailed_some hf]
      | none =>
        rw [firstFailed_none hf]
        cases st <;> cases mode <;> rfl

/-! ## HIRE_STATE and HIRE_CLOSE (01 R21, R22) -/

theorem hireState_cases (p : Picture) (src : Station) (tag : Tag) (st : Option HireState) :
    (tag.home ≠ src ∨ p.hiring tag = none → p.effect src (.hireState tag st) = (p, .refused .noSuchHiring)) ∧
    (∀ h, tag.home = src → p.hiring tag = some h →
      (∀ prior, h.state = .orphaned prior → p.effect src (.hireState tag st) = (p, .refused .wrongState)) ∧
      (h.state = .active .paying → st ≠ some .paying → p.effect src (.hireState tag st) = (p, .refused .wrongState)) ∧
      (∀ old, h.state = .active old → st = none → p.effect src (.hireState tag st) = (p, .refused .wrongState)) ∧
      (∀ old, h.state = .active old → old ≠ .paying → st = some .running → p.headIn = false →
        p.effect src (.hireState tag st) = (p, .refused .headLost)) ∧
      (∀ old y, h.state = .active old → st = some y → ¬(old = .paying ∧ y ≠ .paying) → ¬(y = .running ∧ p.headIn = false) →
        p.effect src (.hireState tag st) =
          ({ p with hirings := p.hirings.map fun x => if x.tag = tag then { x with state := .active y } else x }, .done))) := by
  simp only [Picture.effect, Picture.hireState]
  constructor
  · rintro (h | h)
    · exact if_pos h
    · rw [h]
      exact ite_self _
  · intro h hs hh
    rw [if_neg (not_not_intro hs), hh]
    refine ⟨fun prior ho => ?_, fun ho hst => ?_, fun old ho hst => ?_, fun old ho hp hst hd => ?_, fun old y ho hst h1 h2 => ?_⟩
    · simp [ho]
    · cases st with
      | none => simp [ho]
      | some y => simp [ho, show y ≠ .paying from fun hy => hst (congrArg some hy)]
    · simp [ho, hst]
    · simp [ho, hst, hp, hd]
    · simp only [ho, hst, if_neg h1, if_neg h2]
      rfl

/-- One seat word of an orphan's tag, freed where it is held. -/
def Picture.freeTagSeat (tag : Tag) (q : Picture) (i : Fin 6) : Picture :=
  if (q.claim (.seat i)).tag = tag.code ∧ (q.free (.seat i)) = false then q.freeWord (.seat i) else q

theorem Picture.freeTag_eq (p : Picture) (tag : Tag) : p.freeTag tag = allSeats.foldl (Picture.freeTagSeat tag) p := rfl

theorem Picture.claim_freeTagSeat (tag : Tag) (p : Picture) (i : Fin 6) (w : WordId) : (p.freeTagSeat tag i).claim w =
    if w = .seat i ∧ (p.claim w).tag = tag.code ∧ (p.claim w).holder ≠ none then ⟨none, 0⟩ else p.claim w := by
  unfold Picture.freeTagSeat
  simp only [Picture.free_false_iff]
  by_cases hw : w = .seat i
  · subst hw
    split <;> simp_all
  · split <;> simp [hw]

/-- A seat word once freed is not touched again, so the order of the seats does not matter. -/
theorem Picture.claim_freeTagSeats (tag : Tag) (l : List (Fin 6)) (p : Picture) (w : WordId) :
    (l.foldl (Picture.freeTagSeat tag) p).claim w =
      if (∃ i ∈ l, w = .seat i) ∧ (p.claim w).tag = tag.code ∧ (p.claim w).holder ≠ none then ⟨none, 0⟩ else p.claim w := by
  induction l generalizing p with
  | nil => simp
  | cons i l ih =>
    rw [List.foldl_cons, ih, Picture.claim_freeTagSeat]
    by_cases hw : w = .seat i
    · by_cases hc : (p.claim w).tag = tag.code ∧ (p.claim w).holder ≠ none
      · simp [hw, hw ▸ hc]
      · simp [hw, hw ▸ hc]
    · simp [hw]

theorem Picture.freeTagSeat_others (tag : Tag) (p : Picture) (i : Fin 6) :
    { p.freeTagSeat tag i with claims := p.claims } = p := by
  unfold Picture.freeTagSeat
  split <;> rfl

theorem Picture.freeTagSeats_others (tag : Tag) (l : List (Fin 6)) (p : Picture) :
    { l.foldl (Picture.freeTagSeat tag) p with claims := p.claims } = p := by
  induction l generalizing p with
  | nil => rfl
  | cons i l ih =>
    exact (congrArg (fun q : Picture => { q with claims := p.claims }) (ih (p.freeTagSeat tag i))).trans
      (p.freeTagSeat_others tag i)

theorem mem_allSeats (i : Fin 6) : i ∈ allSeats := by
  cases i using seat_cases <;> decide

theorem Picture.freeTag_others (p : Picture) (tag : Tag) :
    (p.freeTag tag).hirings = p.hirings ∧ (p.freeTag tag).roster = p.roster ∧ (p.freeTag tag).shift = p.shift := by
  rw [Picture.freeTag_eq]
  have h := Picture.freeTagSeats_others tag allSeats p
  generalize allSeats.foldl (Picture.freeTagSeat tag) p = q at h
  rw [← h]
  exact ⟨rfl, rfl, rfl⟩

theorem Picture.claim_freeTag (p : Picture) (tag : Tag) (w : WordId) : (p.freeTag tag).claim w =
    if (∃ i, w = .seat i) ∧ (p.claim w).tag = tag.code ∧ (p.claim w).holder ≠ none then ⟨none, 0⟩ else p.claim w := by
  rw [Picture.freeTag_eq, Picture.claim_freeTagSeats]
  simp only [mem_allSeats, true_and]

theorem Picture.announcing_iff (p : Picture) (tag : Tag) :
    p.announcing tag = true ↔ ∃ e ∈ p.roster, e.state = .joining ∧ e.announced = some tag := by
  simp [Picture.announcing]

theorem hireClose_entry {p : Picture} {src : Station} {tag : Tag} {h : HiringEntry} (hh : p.hiring tag = some h) :
    let may : Prop := tag.home = src ∨
      InServiceHead p src ∧ h.isOrphan = true ∧ ¬∃ e ∈ p.roster, e.state = .joining ∧ e.announced = some tag
    (¬may → p.effect src (.hireClose tag) = (p, .refused .wrongState)) ∧
    (may → ∃ q, p.effect src (.hireClose tag) = (q, .done) ∧
      q.hirings = (p.hirings.filter fun x => x.tag != tag) ∧ q.roster = p.roster ∧ q.shift = p.shift ∧
      (∀ w, (∀ i, w ≠ .seat i) → q.claim w = p.claim w) ∧
      (∀ i, q.claim (.seat i) =
        if h.isOrphan = true ∧ (p.claim (.seat i)).tag = tag.code ∧ (p.claim (.seat i)).holder ≠ none
        then ⟨none, 0⟩ else p.claim (.seat i))) := by
  intro may
  have hmay : (tag.home = src ∨ (p.isHead src && h.isOrphan && !p.announcing tag) = true) ↔ may := by
    simp only [Bool.and_eq_true, Bool.not_eq_true', ← Bool.not_eq_true, Picture.isHead_iff, Picture.announcing_iff, and_assoc, may]
  simp only [Picture.effect, Picture.hireClose, hh]
  constructor
  · exact fun hm => if_neg (mt hmay.mp hm)
  · intro hm
    rw [if_pos (hmay.mpr hm)]
    cases ho : h.isOrphan with
    | false =>
      simp only [Bool.false_eq_true, false_and, if_false]
      exact ⟨_, rfl, rfl, rfl, rfl, fun _ _ => rfl, fun _ => rfl⟩
    | true =>
      simp only [true_and, if_true]
      generalize hq : ({ p with hirings := p.hirings.filter fun x => x.tag != tag } : Picture) = q
      obtain ⟨hh', hr, hs⟩ := q.freeTag_others tag
      refine ⟨_, rfl, hh'.trans ?_, hr.trans ?_, hs.trans ?_, fun w hw => ?_, fun i => ?_⟩
      · rw [← hq]
      · rw [← hq]
      · rw [← hq]
      · rw [Picture.claim_freeTag, if_neg fun hf => hf.1.elim hw, ← hq]
        rfl
      · rw [Picture.claim_freeTag, ← hq]
        exact ite_congr (propext (and_iff_right ⟨i, rfl⟩)) (fun _ => rfl) fun _ => rfl

/-- Settles O25: HIRE_STATE case by case, HIRE_CLOSE by the right to it, and the seat words of an orphan's tag freed one by one. -/
theorem hireStateAndClose : Obligations.HireStateAndClose :=
  ⟨hireState_cases, fun p src tag => ⟨fun hn => by simp only [Picture.effect, Picture.hireClose, hn], fun _ hh => hireClose_entry hh⟩⟩

end Sys2Proof

/-! A frame applied at a holder, where BULK's waiting places hold what no producer puts there. -/

namespace Sys2Proof.Machine

/-- An entry of the forward list. -/
def strayEntry : FwdEntry := ⟨.offline, 1, ⟨3, 1⟩, 100, [], none, Stamp.zero⟩

/-- A BAY in service, alone in its picture, with forwarding in TAKING. The place where the SNAPSHOT behind BULK waits holds a FORWARD: the type of the place admits it, but no step of the model from reset puts it there. -/
def strayForward : State where
  pending := []
  node :=
    { core := { node := .inService, halt := none, straps := ⟨3, .bay, false, false⟩, cfg := Cfg.blank, digest := 0,
                standby := true, pic := some Picture.absent }
      w := { Work.fresh 0 0 Retained.cold with
             card := { Card.init with fwd := .taking }
             sel := { Selector.empty with waitSnapshot := some (.forward 5 strayEntry) } } }

/-- A GIVE that names no word changes nothing in the picture. -/
theorem strayForward_meets : MeetsAsHolder 5 (.give none) strayForward.node :=
  ⟨rfl, rfl, nofun, nofun, rfl⟩

/-- The standing work moves the FORWARD from the SNAPSHOT's place to the BULK slot after forwarding has given LANE up. -/
theorem strayForward_bulk : ∃ t o, exec (frameCommand 5 (.give none)) strayForward = .next t ∧
    t.node.core.view.inService .gateway = false ∧ t.node.w.sel.bulk = some o ∧ o.frame.isForward = true ∧ o.attempts = 0 :=
  ⟨_, _, rfl, rfl, rfl, rfl, rfl⟩

/-- Refutes O17, in its clause on forwarding: `strayForward` keeps a FORWARD not begun in the BULK slot, since the clause does not ask that the other places behind BULK hold frames of their own kinds. -/
theorem not_pictureFrameApplied : ¬ Obligations.PictureFrameApplied := by
  intro h
  obtain ⟨-, -, -, -, -, hforward, -⟩ := h
  obtain ⟨t, ht, -, hP⟩ := hforward strayForward 5 (.give none) strayForward_meets (.inl rfl)
  obtain ⟨t', o, ht', hgate, hbulk, hkind, hfirst⟩ := strayForward_bulk
  obtain rfl : t' = t := Host.Outcome.next.inj (ht'.symm.trans ht)
  obtain ⟨-, -, -, hbegun, -⟩ := hP (.inl hgate)
  exact absurd (hbegun o hbulk hkind) (by omega)

end Sys2Proof.Machine

/-! DISTANCE at a holder of the picture (04 R72 to R80), whoever sent it. -/

namespace Sys2Proof.Machine

/-! ## What the line's part of a completed frame leaves -/

/-- The work without the line, the selector and the picture store's timers. -/
def Work.offLine (w : Work) : Work := { w with line := LineIf.init, sel := Selector.empty, store := Store.init }

theorem offLine_withdrawPic (p : Producer) (w : Work) : (withdrawPic p w).offLine = w.offLine := rfl

theorem offLine_withdrawDrop (s : Station) (w : Work) : (withdrawDrop s w).offLine = w.offLine := by
  unfold withdrawDrop
  repeat' split
  all_goals rfl

theorem offLine_heardFrom (src : Station) (w : Work) : (heardFrom src w).offLine = w.offLine := offLine_withdrawDrop ..

theorem offLine_ownComplete (k : SlotId) (c : Core) (w : Work) : (ownComplete k c w).offLine = w.offLine := rfl

/-- The line's part of a completed frame touches the line and the store only. -/
theorem Untouched.fromOffLine {but : List Piece} {w w' v : Work} (h : Untouched but w' v) (he : w'.offLine = w.offLine)
    (hl : .line ∈ but) (hs : .store ∈ but) : Untouched but w v := by
  intro p hp
  have h1 : p.same w' v := h p hp
  have h2 (u : Work) : p.same u.offLine v ↔ p.same u v := by
    cases p
    case line => exact absurd hl hp
    case store => exact absurd hs hp
    all_goals exact Iff.rfl
  exact (h2 w).mp (he ▸ (h2 w').mpr h1)

theorem withdrawPic_lastWinner (p : Producer) (w : Work) : (withdrawPic p w).line.lastWinner = w.line.lastWinner := by
  unfold withdrawPic LineIf.dropHand
  simp only []
  repeat' split
  all_goals rfl

theorem heardFrom_lastWinner (src : Station) (w : Work) : (heardFrom src w).line.lastWinner = w.line.lastWinner := by
  unfold heardFrom withdrawDrop
  repeat' split
  all_goals first | rfl | exact withdrawPic_lastWinner ..

theorem Untouched.lastWinner {but : List Piece} {w v : Work} (h : Untouched but w v) (hl : .line ∉ but) :
    v.line.lastWinner = w.line.lastWinner := by
  have he : { v.line with inHand := none } = { w.line with inHand := none } := h .line hl
  exact (congrArg LineIf.lastWinner he :)

theorem Untouched.presence {but : List Piece} {w v : Work} (h : Untouched but w v) (hs : .store ∉ but) :
    v.store.presence = w.store.presence := by
  have he : v.store = w.store := h .store hs
  rw [he]

theorem Untouched.mono {but but' : List Piece} {w v : Work} (h : Untouched but w v) (hb : but ⊆ but') : Untouched but' w v :=
  fun p hp => h p fun hm => hp (hb hm)

/-- A frame on the air that no other station objects to goes to its owner. -/
theorem frameOutcome_onAir {n : Node} {k : SlotId} {o : Offer} {m : Marks} (ho : OnAir n k o) (hm : m.object = false) :
    frameOutcome m n = settleNode (returned o (resultOf o.frame.dest m) ⟨n.core, ownComplete k n.core n.w⟩) := by
  obtain ⟨hair, hcol, -, -⟩ := ho
  unfold frameOutcome
  simp only [hair, hcol, hm, Bool.false_eq_true, if_false]

/-- A frame that no block hands on to the picture or the join. -/
theorem returned_work {o : Offer} {r : FrameResult} {n : Node} (hl : o.leaving = false) (hd : o.dead = false)
    (hp : ∀ f, o.frame ≠ .pic f) (ha : o.frame ≠ .snapshotAsk) : returned o r n = ⟨n.core, workOutcome n.core o r n.w⟩ := by
  unfold returned
  simp only [hl, hd, Bool.false_eq_true, if_false]
  split
  · next h => exact absurd h (hp _)
  · next h _ => exact absurd h (hp _)
  · next h => exact absurd h ha
  · next h _ => exact absurd h ha
  · rfl

/-! ## Raising an alert -/

/-- What raising an alert leaves: all but the router's own part, the selector, the frame in hand and the console's queue. -/
def Work.unraised (w : Work) : Work :=
  { w with
    alerts := Alerts.init
    sel := Selector.empty
    line := { w.line with inHand := none }
    con := { w.con with queue := [], sending := none } }

theorem unraised_report (c : Core) (r : Report) (w : Work) : (report c r w).unraised = w.unraised := by
  unfold report Work.unraised
  split
  · simp
  · rfl

theorem unraised_place (c : Core) (k : SlotId) (f : Frame) (u : Purpose) (w : Work) : (place c k f u w).unraised = w.unraised := by
  unfold place LineIf.dropHand
  repeat' split
  all_goals rfl

theorem unraised_consolePart (c : Core) (a : AlertRec) (cls : AlertClass) (carried : Option Nat) (w : Work) :
    (consolePart c a cls carried w).unraised = w.unraised := by
  unfold consolePart reportAlert
  simp only []
  repeat' split
  all_goals first | rfl | exact unraised_report ..

theorem unraised_displayPart (a : AlertRec) (cls : AlertClass) (w : Work) : (displayPart a cls w).unraised = w.unraised := by
  unfold displayPart
  repeat' split
  all_goals rfl

theorem unraised_raiseParts (c : Core) (frames : Bool) (a : AlertRec) (w : Work) :
    (raiseParts c frames a w).unraised = w.unraised := by
  have hf (cls : AlertClass) (d : PartDest) (v : Work) : (framePart a cls d v).unraised = v.unraised := rfl
  unfold raiseParts
  simp only []
  repeat' split
  all_goals simp only [hf, unraised_consolePart, unraised_displayPart]

theorem unraised_alertPoll (c : Core) (w : Work) : (alertPoll c w).unraised = w.unraised := by
  unfold alertPoll
  simp only []
  repeat' split
  all_goals first | rfl | exact unraised_place ..

theorem unraised_raise (c : Core) (a : AlertRec) (w : Work) : (raise c a w).unraised = w.unraised :=
  (unraised_alertPoll c _).trans (unraised_raiseParts c true a w)

/-! ## The distance taken, without its alerts (04 R72 to R80) -/

/-- The slot with its pending gap settled by the running count (04 R80). -/
def Retained.gapSettled (r : Retained) (n : Nat) (running : BitVec 16) : Slot :=
  if r.slot.gapPending then
    { r.slot with
      gapPending := false
      gap := match r.lastRunning.map fun last => (running - BitVec.ofNat 16 n - last).toNat with
        | some m => min 65535 (r.slot.gap + m)
        | none => r.slot.gap }
  else r.slot

theorem unraised_takeGap (c : Core) (n : Nat) (running : BitVec 16) (w : Work) :
    (takeGap c n running w).unraised = w.unraised.onSlot fun _ => w.ret.gapSettled n running := by
  unfold takeGap Retained.gapSettled
  by_cases hg : w.ret.slot.gapPending = true
  · simp only [hg, if_true, onSlot_ret_lastRunning]
    cases w.ret.lastRunning with
    | none => rfl
    | some last =>
      simp only [Option.map_some]
      split
      · exact unraised_raise ..
      · rfl
  · simp only [hg]
    rfl

theorem takeGap_meter (c : Core) (n : Nat) (running : BitVec 16) (w : Work) : (takeGap c n running w).meter = w.meter :=
  (congrArg Work.meter (unraised_takeGap c n running w) :)

/-- The slot after n units: RUNNING it is charged at the rate of its mode (04 R73). -/
def Slot.travels (s : Slot) (c : Core) (band n : Nat) : Slot :=
  if s.state = .running then
    Slot.charged { s with distance := s.distance + n } band (n * (c.cfg.band band).rate s.mode c.view.occupancy)
  else s

theorem unraised_charge (c : Core) (amount : Nat) (w : Work) :
    (charge c amount w).unraised = w.unraised.onSlot fun s => s.charged w.meter.band amount := by
  unfold charge
  simp only []
  split
  · exact unraised_raise ..
  · rfl

theorem unraised_chargeDistance (c : Core) (n : Nat) (w : Work) :
    (chargeDistance c n w).unraised = w.unraised.onSlot fun s => s.travels c w.meter.band n := by
  unfold chargeDistance Slot.travels
  by_cases hs : w.ret.slot.state = .running
  · simp only [hs, beq_self_eq_true, if_true]
    rw [unraised_charge]
    unfold Work.onSlot
    simp [Work.unraised, hs]
  · unfold Work.onSlot
    simp [Work.unraised, hs]

/-- What a DISTANCE leaves beside the slot: the running count, the window and the vehicle's tally (04 R75, 11 R180). -/
def distanceCounted (c : Core) (n : Nat) (running : BitVec 16) (w : Work) : Work :=
  let w := { w with ret := { w.ret with lastRunning := some running } }
  if c.isHead then
    let w := w.onMeter fun m => m.addUnits c.cfg.driveQuietQ n
    if c.view.free .shift then w
    else if c.view.hired then tallyAdd { TallyVals.zero none with hired := n } w
    else tallyAdd { TallyVals.zero none with empty := n } w
  else w

/-- The whole of an accepted DISTANCE, without its alerts. -/
def distanced (c : Core) (n : Nat) (running : BitVec 16) (w : Work) : Work :=
  let w := w.onMeter fun m => { m with lastDistance := some w.now, seen := true }
  distanceCounted c n running (w.onSlot fun _ => (w.ret.gapSettled n running).travels c w.meter.band n)

theorem unraised_distanceCounted (c : Core) (n : Nat) (running : BitVec 16) (w : Work) :
    (distanceCounted c n running w).unraised = distanceCounted c n running w.unraised := by
  unfold distanceCounted
  simp only []
  repeat' split
  all_goals rfl

theorem takeDistance_refused {c : Core} {src : Station} {n : Nat} (h : c.view.hasRole src .head = false ∨ n = 0 ∨ 255 < n)
    (running : BitVec 16) (w : Work) : takeDistance c src n running w = w := by
  refine if_neg fun hh => ?_
  simp only [Bool.and_eq_true, decide_eq_true_eq] at hh
  obtain ⟨⟨-, hr⟩, h1, h2⟩ := hh
  rcases h with h | h | h
  · exact Bool.false_ne_true (h.symm.trans hr)
  · omega
  · omega

theorem unraised_takeDistance {c : Core} {src : Station} {n : Nat} (hs : c.serving = true)
    (hr : c.view.hasRole src .head = true) (h1 : 1 ≤ n) (h2 : n ≤ 255) (running : BitVec 16) (w : Work) :
    (takeDistance c src n running w).unraised = distanced c n running w.unraised := by
  have hacc : (c.serving && c.view.hasRole src .head && decide (1 ≤ n ∧ n ≤ 255)) = true := by simp [hs, hr, h1, h2]
  have htail : takeDistance c src n running w = distanceCounted c n running (chargeDistance c n (takeGap c n running
      (w.onMeter fun m => { m with lastDistance := some w.now, seen := true }))) := if_pos hacc
  rw [htail, unraised_distanceCounted, unraised_chargeDistance, unraised_takeGap, takeGap_meter]
  rfl

/-! ## The parts of a distance taken -/

theorem addUnits_eq (m : Meter) (q n : Nat) : m.addUnits q n =
    { m with current := m.current + n
             quiet := m.quiet || decide (q ≤ m.window.sum + (m.current + n))
             quietSecs := if q ≤ m.window.sum + (m.current + n) ∧ m.quiet = false then 0 else m.quietSecs } := by
  unfold Meter.addUnits Meter.total
  simp only []
  by_cases hq : q ≤ m.window.sum + (m.current + n)
  · cases m.quiet <;> simp [hq]
  · simp [hq]

@[simp] theorem distanceCounted_slot (c : Core) (n : Nat) (running : BitVec 16) (w : Work) :
    (distanceCounted c n running w).ret.slot = w.ret.slot := by
  unfold distanceCounted
  simp only []
  repeat' split
  all_goals rfl

theorem distanceCounted_meter (c : Core) (n : Nat) (running : BitVec 16) (w : Work) :
    (distanceCounted c n running w).meter = if c.isHead then w.meter.addUnits c.cfg.driveQuietQ n else w.meter := by
  unfold distanceCounted
  simp only []
  repeat' split
  all_goals rfl

theorem distanceCounted_tally (c : Core) (n : Nat) (running : BitVec 16) (w : Work) :
    (distanceCounted c n running w).ret.tally.tally =
      if (c.isHead && !c.view.free .shift) = true then
        w.ret.tally.tally.plus (if c.view.hired then { TallyVals.zero none with hired := n }
          else { TallyVals.zero none with empty := n })
      else w.ret.tally.tally := by
  unfold distanceCounted
  simp only []
  repeat' split
  all_goals simp_all [tallyAdd, Work.onMeter]

/-- What no DISTANCE touches. -/
def Work.undriven (w : Work) : Work :=
  { w.unraised with
    meter := Meter.init
    ret := { w.ret with slot := Slot.cold, lastRunning := none, tally := { w.ret.tally with tally := TallyVals.zero none } } }

theorem undriven_distanced (c : Core) (n : Nat) (running : BitVec 16) (w : Work) :
    (distanced c n running w).undriven = w.undriven := by
  unfold distanced distanceCounted
  simp only []
  repeat' split
  all_goals rfl

theorem travels_state (s : Slot) (c : Core) (band n : Nat) : (s.travels c band n).state = s.state := by
  unfold Slot.travels
  split <;> rfl

theorem gapSettled_state (r : Retained) (n : Nat) (running : BitVec 16) : (r.gapSettled n running).state = r.slot.state := by
  unfold Retained.gapSettled
  split <;> rfl

theorem told_takeDistance (c : Core) (src : Station) (n : Nat) (running : BitVec 16) (w : Work) :
    (takeDistance c src n running w).told = w.told := by
  have hgap (v : Work) : (takeGap c n running v).told = v.told := by
    unfold takeGap
    simp only []
    repeat' split
    all_goals first | rfl | exact told_raise ..
  have hcharge (v : Work) : (chargeDistance c n v).told = v.told := by
    unfold chargeDistance charge
    simp only []
    repeat' split
    all_goals first | rfl | exact told_raise ..
  have htail (v : Work) : (distanceCounted c n running v).told = v.told := by
    unfold distanceCounted
    simp only []
    repeat' split
    all_goals rfl
  unfold takeDistance
  split
  · exact (htail _).trans ((hcharge _).trans (hgap _))
  · rfl

/-- Standing work takes units and a waiting TIME from the meter, and nothing else. -/
theorem settle_meter (c : Core) (w : Work) : (settle c w).meter =
    { w.meter with accumulator := (settle c w).meter.accumulator, timeWaiting := (settle c w).meter.timeWaiting } := by
  obtain ⟨hm, -, -⟩ : Piece.same w (settle c w) .meter := settle_untouched c w .meter (by simp)
  generalize (settle c w).meter = m at hm ⊢
  exact (congrArg (fun x : Meter => { x with accumulator := m.accumulator, timeWaiting := m.timeWaiting }) hm :)

theorem settle_lastRunning (c : Core) (w : Work) : (settle c w).ret.lastRunning = w.ret.lastRunning :=
  (settle_untouched c w .meter (by simp)).2.2

theorem settle_running (c : Core) (w : Work) : (settle c w).ret.running = w.ret.running :=
  (settle_untouched c w .meter (by simp)).2.1

theorem settle_slot {c : Core} {w : Work} (h : w.ret.slot.state.stands = true) : (settle c w).ret.slot = w.ret.slot :=
  congrArg Prod.fst (fare_settle c w h)

theorem settle_tally {c : Core} {w : Work} (h : w.atRest = true) : (settle c w).ret.tally.tally = w.ret.tally.tally :=
  (congrArg (fun v : Work => v.ret.tally.tally) (calm_settle c w h) :)

section
variable {c : Core} {src : Station} {n : Nat} (hs : c.serving = true) (hr : c.view.hasRole src .head = true) (h1 : 1 ≤ n)
  (h2 : n ≤ 255) (running : BitVec 16) (w : Work)
include hs hr h1 h2

theorem takeDistance_slot :
    (takeDistance c src n running w).ret.slot = (w.ret.gapSettled n running).travels c w.meter.band n :=
  (congrArg (fun v : Work => v.ret.slot) (unraised_takeDistance hs hr h1 h2 running w)).trans (distanceCounted_slot ..)

theorem takeDistance_meter : (takeDistance c src n running w).meter =
    let m : Meter := { w.meter with lastDistance := some w.now, seen := true }
    if c.isHead then m.addUnits c.cfg.driveQuietQ n else m :=
  (congrArg Work.meter (unraised_takeDistance hs hr h1 h2 running w)).trans (distanceCounted_meter ..)

theorem takeDistance_tally : (takeDistance c src n running w).ret.tally.tally =
    if (c.isHead && !c.view.free .shift) = true then
      w.ret.tally.tally.plus (if c.view.hired then { TallyVals.zero none with hired := n } else { TallyVals.zero none with empty := n })
    else w.ret.tally.tally :=
  (congrArg (fun v : Work => v.ret.tally.tally) (unraised_takeDistance hs hr h1 h2 running w)).trans (distanceCounted_tally ..)

theorem takeDistance_undriven : (takeDistance c src n running w).undriven = w.undriven :=
  (congrArg Work.undriven (unraised_takeDistance hs hr h1 h2 running w)).trans (undriven_distanced ..)

theorem takeDistance_lastRunning : (takeDistance c src n running w).ret.lastRunning = some running := by
  refine (congrArg (fun v : Work => v.ret.lastRunning) (unraised_takeDistance hs hr h1 h2 running w)).trans ?_
  unfold distanced distanceCounted
  simp only []
  repeat' split
  all_goals rfl

theorem takeDistance_slot_state : (takeDistance c src n running w).ret.slot.state = w.ret.slot.state := by
  rw [takeDistance_slot hs hr h1 h2, travels_state, gapSettled_state]

theorem takeDistance_atRest : (takeDistance c src n running w).atRest = w.atRest := by
  have h := takeDistance_undriven hs hr h1 h2 running w
  have hj : (takeDistance c src n running w).ret.journal = w.ret.journal := (congrArg (fun v : Work => v.ret.journal) h :)
  have hk : (takeDistance c src n running w).ret.card = w.ret.card := (congrArg (fun v : Work => v.ret.card) h :)
  have ht : (takeDistance c src n running w).ret.tally.hold = w.ret.tally.hold :=
    (congrArg (fun v : Work => v.ret.tally.hold) h :)
  simp only [Work.atRest, hj, hk, ht, takeDistance_slot_state hs hr h1 h2]

theorem takeDistance_untouched : Untouched [.meter, .slot, .records, .alerts] w (settle c (takeDistance c src n running w)) := by
  have hst := takeDistance_slot_state hs hr h1 h2 running w
  have hrest := takeDistance_atRest hs hr h1 h2 running w
  refine Untouched.settle c ?_ (fun h => hst ▸ h) fun h => hrest.trans h
  have h := takeDistance_undriven hs hr h1 h2 running w
  intro p hp
  cases p
  case meter | slot | records | alerts => simp at hp
  case now => exact (congrArg Work.now h :)
  case clock =>
    exact ⟨(congrArg (fun v : Work => v.ret.clock) h :), (congrArg (fun v : Work => v.ret.valid) h :), (congrArg Work.free h :)⟩
  case card =>
    have hk : (takeDistance c src n running w).ret.card = w.ret.card := (congrArg (fun v : Work => v.ret.card) h :)
    have hk' : (takeDistance c src n running w).card = w.card := (congrArg Work.card h :)
    exact ⟨by rw [hk], by rw [hk']⟩
  case shift =>
    exact ⟨(congrArg Work.shift h :), (congrArg (fun v : Work => v.ret.tally.copy) h :),
      (congrArg (fun v : Work => v.ret.tally.counter) h :)⟩
  case line => exact (congrArg Work.line h :)
  case store => exact (congrArg Work.store h :)
  case join => exact (congrArg Work.join h :)
  case sign => exact (congrArg Work.sign h :)
  case call =>
    have hi : (takeDistance c src n running w).ic = w.ic := (congrArg Work.ic h :)
    exact fun _ _ => by rw [hi]
  case stream => exact (congrArg Work.stream h :)
  case ports => exact ⟨(congrArg Work.keys h :), (congrArg Work.assist h :)⟩
  case console =>
    exact ⟨(congrArg (fun v : Work => v.con.request) h :), (congrArg (fun v : Work => v.con.rx) h :),
      told_takeDistance c src n running w⟩

theorem takeDistance_taken : DistanceTaken c n running w (settle c (takeDistance c src n running w)) := by
  have hslot := takeDistance_slot hs hr h1 h2 running w
  have hstate := takeDistance_slot_state hs hr h1 h2 running w
  have hmeter := takeDistance_meter hs hr h1 h2 running w
  have htally := takeDistance_tally hs hr h1 h2 running w
  have hlast := takeDistance_lastRunning hs hr h1 h2 running w
  have hrest := takeDistance_atRest hs hr h1 h2 running w
  have hrun : (takeDistance c src n running w).ret.running = w.ret.running :=
    (congrArg (fun v : Work => v.ret.running) (takeDistance_undriven hs hr h1 h2 running w) :)
  generalize takeDistance c src n running w = v at *
  have hslot' (h : w.ret.slot.state.stands = true) : (settle c v).ret.slot = v.ret.slot := settle_slot (hstate ▸ h)
  have htally' (h : w.atRest = true) : (settle c v).ret.tally.tally = v.ret.tally.tally := settle_tally (hrest.trans h)
  unfold DistanceTaken
  extract_lets missed _ slot rate reaches
  have hgap : slot = w.ret.gapSettled n running := rfl
  have hgs : slot.state = w.ret.slot.state := gapSettled_state ..
  refine ⟨(settle_lastRunning c v).trans hlast, (settle_running c v).trans hrun, ?_, ?_, ?_, ?_, fun hh => ?_, fun hb => ?_,
    fun h => ?_, fun h hst => ?_, fun hat hh hsh => ?_, fun hat hno => ?_⟩
  case refine_7 =>
    rw [hslot' (by rw [← hgs, h]; rfl), hslot, ← hgap]
    exact if_pos h
  case refine_8 =>
    rw [hslot' (hgs ▸ hst), hslot, ← hgap]
    exact if_neg h
  case refine_9 =>
    have hcond : (c.isHead && !c.view.free .shift) = true := by simp [Core.isHead, hh, hsh]
    rw [htally' hat, htally, if_pos hcond]
    cases c.view.hired <;> exact ⟨rfl, rfl⟩
  case refine_10 =>
    have hcond : ¬(c.isHead && !c.view.free .shift) = true := by
      rcases hno with h | h <;> simp [Core.isHead, h]
    rw [htally' hat, htally, if_neg hcond]
  all_goals rw [settle_meter, hmeter]
  case refine_5 =>
    have hhead : c.isHead = true := by simp [Core.isHead, hh]
    simp only [hhead, if_true, addUnits_eq, true_and]
    refine ⟨fun hq => ?_, fun hq => ?_⟩
    · have hq' : c.cfg.driveQuietQ ≤ w.meter.window.sum + (w.meter.current + n) := hq
      cases w.meter.quiet <;> simp [hq']
    · have hq' : ¬c.cfg.driveQuietQ ≤ w.meter.window.sum + (w.meter.current + n) := hq
      simp [hq']
  case refine_6 =>
    have hhead : c.isHead = false := by simp [Core.isHead, hb]
    simp [hhead]
  all_goals cases c.isHead <;> simp [addUnits_eq]
end

/-! ## The commands -/

theorem distance_other (s : State) (src : Station) (n : Nat) (running : BitVec 16) (h : s.node.core.serving = true)
    (hf : s.node.sends src (.distance n running) = false) :
    exec (.distance src n running) s = .next ⟨s.pending, ⟨s.node.core, settle s.node.core
      (takeDistance s.node.core src n running (heardFrom src (s.node.w.lineHeard src)))⟩⟩ := by
  show onNode (broadcast src (.distance n running) fun x => ⟨x.core, takeDistance x.core src n running x.w⟩) s = _
  rw [onNode_next, broadcast_other _ _ _ _ hf, completed_serving _ _ h]
  rfl

theorem distance_own {s : State} {m : Marks} {k : SlotId} {o : Offer} {n : Nat} {running : BitVec 16} (ho : OnAir s.node k o)
    (hm : m.object = false) (hf : o.frame = .distance n running) :
    exec (.frameOutcome m) s = .next ⟨s.pending, ⟨s.node.core, settle s.node.core
      (takeDistance s.node.core s.node.core.me n running (ownComplete k s.node.core s.node.w))⟩⟩ := by
  show onNode (frameOutcome m) s = _
  have hair := ho
  obtain ⟨-, -, hleaving, hdead⟩ := ho
  rw [onNode_next, frameOutcome_onAir hair hm, returned_work hleaving hdead (by simp [hf]) (by simp [hf])]
  simp only [workOutcome, hf, Frame.dest, resultOf]
  rfl

/-- The line's part of a completed frame is nothing to the meter. -/
theorem DistanceTaken.fromOffLine {c : Core} {n : Nat} {running : BitVec 16} {w w' v : Work} (h : DistanceTaken c n running w' v)
    (he : w'.offLine = w.offLine) : DistanceTaken c n running w v := by
  have h1 : DistanceTaken c n running w'.offLine v := h
  rw [he] at h1
  exact h1

/-- Settles O32: an accepted DISTANCE is `distanced` but for its alerts, and standing work leaves what it has counted. -/
theorem distanceCharges : Obligations.DistanceCharges := by
  refine ⟨fun s src n running hs hf hr h1 h2 => ?_, fun s m k o n running ho hm hf hs hr h1 h2 => ?_,
    fun s src n running hs hf hno => ?_, fun s src n running hf => ?_⟩
  · have hd := takeDistance_taken hs hr h1 h2 running (heardFrom src (s.node.w.lineHeard src))
    have hu := takeDistance_untouched hs hr h1 h2 running (heardFrom src (s.node.w.lineHeard src))
    have he : (heardFrom src (s.node.w.lineHeard src)).offLine = s.node.w.offLine := offLine_heardFrom ..
    exact ⟨_, distance_other s src n running hs hf, rfl, rfl, (hu.lastWinner (by simp)).trans (heardFrom_lastWinner ..),
      hd.fromOffLine he, (hu.mono (by simp)).fromOffLine he (by simp) (by simp)⟩
  · have hd := takeDistance_taken hs hr h1 h2 running (ownComplete k s.node.core s.node.w)
    have hu := takeDistance_untouched hs hr h1 h2 running (ownComplete k s.node.core s.node.w)
    have he := offLine_ownComplete k s.node.core s.node.w
    exact ⟨_, distance_own ho hm hf, rfl, rfl, hu.lastWinner (by simp), (hu.presence (by simp)).trans (if_pos hs),
      hd.fromOffLine he, (hu.mono (by simp)).fromOffLine he (by simp) (by simp)⟩
  · refine ⟨_, distance_other s src n running hs hf, rfl, rfl, ?_⟩
    rw [takeDistance_refused hno]
    exact ((settle_untouched _ _).mono (by simp)).fromOffLine (offLine_heardFrom ..) (by simp) (by simp)
  · exact congrArg Host.Outcome.next (congrArg (State.mk s.pending) (broadcast_own _ _ _ _ hf))

end Sys2Proof.Machine

/-! This node's own frames at their completion: a HIRE_COMMAND of the console (12 R192) and a picture frame (01 R6 to R8). -/

namespace Sys2Proof.Machine

/-! ## What a change notice leaves to every block (01 R8) -/

/-- The parts of the work that belong to no block of the change notice: time, the clock, the meter, the last winner and the
presence timer. -/
structure Bearings where
  now : Time
  free : Nat
  clock : Option Nat
  valid : Bool
  running : BitVec 16
  lastRunning : Option (BitVec 16)
  meter : Meter
  lastWinner : Station
  presence : Option Time

/-- The bearings of a work, but for what the METER slot waits for. -/
def Work.bearings (w : Work) : Bearings where
  now := w.now
  free := w.free
  clock := w.ret.clock
  valid := w.ret.valid
  running := w.ret.running
  lastRunning := w.ret.lastRunning
  meter := { w.meter with accumulator := 0, timeWaiting := none }
  lastWinner := w.line.lastWinner
  presence := w.store.presence

theorem bearings_of_still {w v : Work} (h : v.still = w.still) : v.bearings = w.bearings :=
  (congrArg Work.bearings h :)

theorem bearings_foldl {α : Type} {f : Work → α → Work} (h : ∀ v a, (f v a).bearings = v.bearings) (l : List α) (w : Work) :
    (l.foldl f w).bearings = w.bearings := by
  induction l generalizing w with
  | nil => rfl
  | cons a l ih => exact (ih (f w a)).trans (h w a)

@[simp] theorem bearings_onSlot (w : Work) (f : Slot → Slot) : (w.onSlot f).bearings = w.bearings := rfl
@[simp] theorem bearings_onCard (w : Work) (f : Card → Card) : (w.onCard f).bearings = w.bearings := rfl
@[simp] theorem bearings_onCardRet (w : Work) (f : CardRet → CardRet) : (w.onCardRet f).bearings = w.bearings := rfl
@[simp] theorem bearings_onShift (w : Work) (f : Shift → Shift) : (w.onShift f).bearings = w.bearings := rfl
@[simp] theorem bearings_onTally (w : Work) (f : TallyRet → TallyRet) : (w.onTally f).bearings = w.bearings := rfl
@[simp] theorem bearings_onJoin (w : Work) (f : Join → Join) : (w.onJoin f).bearings = w.bearings := rfl
@[simp] theorem bearings_withIc (w : Work) (i : Intercom) : (w.withIc i).bearings = w.bearings := rfl

/-! ### The selector and the stream -/

@[simp] theorem bearings_withdrawSlot (k : SlotId) (w : Work) : (withdrawSlot k w).bearings = w.bearings := by
  unfold withdrawSlot LineIf.dropHand
  repeat' split
  all_goals rfl

@[simp] theorem bearings_withdrawBulk (kind : Frame → Bool) (w : Work) : (withdrawBulk kind w).bearings = w.bearings := by
  unfold withdrawBulk
  repeat' split
  all_goals simp

@[simp] theorem bearings_killBulk (kind : Frame → Bool) (w : Work) : (killBulk kind w).bearings = w.bearings := rfl

@[simp] theorem bearings_endStream (mark : Option Station) (w : Work) : (endStream mark w).bearings = w.bearings := by
  unfold endStream
  split <;> rfl

@[simp] theorem bearings_stopStream (w : Work) : (stopStream w).bearings = w.bearings := by
  unfold stopStream
  split
  · exact (bearings_killBulk ..).trans ((bearings_withdrawBulk ..).trans (bearings_endStream ..))
  · rfl

@[simp] theorem bearings_streamNotice (c : Core) (w : Work) : (streamNotice c w).bearings = w.bearings := by
  unfold streamNotice
  repeat' split
  all_goals simp

/-! ### Reports, alerts and the sign -/

@[simp] theorem bearings_signOutputs (c : Core) (w : Work) : (signOutputs c w).bearings = w.bearings := by
  unfold signOutputs
  split <;> rfl

@[simp] theorem bearings_report (c : Core) (r : Report) (w : Work) : (report c r w).bearings = w.bearings :=
  bearings_of_still (still_report ..)

@[simp] theorem bearings_signTold (c : Core) (old : Sign) (w : Work) : (signTold c old w).bearings = w.bearings := by
  unfold signTold
  simp only []
  repeat' split
  all_goals simp

@[simp] theorem bearings_place (c : Core) (k : SlotId) (f : Frame) (u : Purpose) (w : Work) :
    (place c k f u w).bearings = w.bearings :=
  bearings_of_still (still_place ..)

@[simp] theorem bearings_raise (c : Core) (a : AlertRec) (w : Work) : (raise c a w).bearings = w.bearings :=
  bearings_of_still (still_raise ..)

@[simp] theorem bearings_lampReport (c : Core) (l : LampId) (w : Work) : (lampReport c l w).bearings = w.bearings := by
  unfold lampReport
  simp only []
  repeat' split
  all_goals first | rfl | exact bearings_raise ..

@[simp] theorem bearings_signFollow (c : Core) (old : Sign) (w : Work) : (signFollow c old w).bearings = w.bearings := by
  unfold signFollow
  simp only []
  repeat' split
  all_goals simp

@[simp] theorem bearings_signDerive (c : Core) (w : Work) : (signDerive c w).bearings = w.bearings := by
  unfold signDerive
  split
  · exact bearings_signFollow ..
  · rfl

/-! ### Offers of the producers -/

@[simp] theorem bearings_offerPic (c : Core) (p : Producer) (u : Purpose) (f : Frame) (w : Work) :
    (offerPic c p u f w).bearings = w.bearings :=
  bearings_of_still (still_offerPic ..)

@[simp] theorem bearings_maskUpdate (c : Core) (w : Work) : (maskUpdate c w).bearings = w.bearings :=
  bearings_of_still (still_maskUpdate ..)

@[simp] theorem bearings_slotFreed (c : Core) (w : Work) : (slotFreed c w).bearings = w.bearings :=
  bearings_of_still (still_slotFreed ..)

@[simp] theorem bearings_authPoll (c : Core) (w : Work) : (authPoll c w).bearings = w.bearings :=
  bearings_of_still (still_authPoll ..)

@[simp] theorem bearings_statusTold (c : Core) (w : Work) : (statusTold c w).bearings = w.bearings :=
  bearings_of_still (still_statusTold ..)

@[simp] theorem bearings_callTold (c0 : Core) (i0 : Intercom) (c : Core) (w : Work) :
    (callTold c0 i0 c w).bearings = w.bearings :=
  bearings_of_still (still_callTold ..)

/-! ### The console and the shift -/

@[simp] theorem bearings_answer (r : Option Reason) (w : Work) : (answer r w).bearings = w.bearings := rfl

@[simp] theorem bearings_answerIf (q : Request) (r : Option Reason) (w : Work) : (answerIf q r w).bearings = w.bearings := by
  unfold answerIf
  split <;> rfl

@[simp] theorem bearings_offerReady (a : Answered) (w : Work) : (offerReady a w).bearings = w.bearings := rfl

@[simp] theorem bearings_holdTally (r : Record) (sealReq back : Bool) (w : Work) :
    (holdTally r sealReq back w).bearings = w.bearings := rfl

@[simp] theorem bearings_joinShift (c : Core) (s : ShiftRec) (w : Work) : (joinShift c s w).bearings = w.bearings := rfl

@[simp] theorem bearings_holdCard (c : Core) (b : RecBody) (w : Work) : (holdCard c b w).bearings = w.bearings := rfl

@[simp] theorem bearings_forwardStop (w : Work) : (forwardStop w).bearings = w.bearings :=
  bearings_withdrawBulk ..

@[simp] theorem bearings_forcedClose (c : Core) (w : Work) : (forcedClose c w).bearings = w.bearings := by
  unfold forcedClose
  simp only []
  repeat' split
  all_goals simp [bearings_foldl fun v e => bearings_holdCard c (.unsentOffline e) v]

@[simp] theorem bearings_closeShift (c : Core) (forced orphan : Bool) (w : Work) :
    (closeShift c forced orphan w).bearings = w.bearings := rfl

@[simp] theorem bearings_commitShift (c : Core) (number : Nat) (force : Bool) (w : Work) :
    (commitShift c number force w).bearings = w.bearings := by
  unfold commitShift
  repeat' split
  all_goals simp

@[simp] theorem bearings_decideClose (c : Core) (w : Work) : (decideClose c w).bearings = w.bearings := by
  unfold decideClose
  simp only []
  repeat' split
  all_goals simp

@[simp] theorem bearings_decideIfAll (c : Core) (w : Work) : (decideIfAll c w).bearings = w.bearings := by
  unfold decideIfAll
  split
  · exact bearings_decideClose ..
  · rfl

@[simp] theorem bearings_startAnswering (c : Core) (number : Nat) (force : Bool) (w : Work) :
    (startAnswering c number force w).bearings = w.bearings := by
  simp [startAnswering]

@[simp] theorem bearings_shiftFrame (c : Core) (src : Station) (f : PicFrame) (r : PicResult) (own : Bool) (w : Work) :
    (shiftFrame c src f r own w).bearings = w.bearings := by
  unfold shiftFrame
  simp only []
  repeat' split
  all_goals simp

@[simp] theorem bearings_shiftNotice (c : Core) (src : Station) (f : PicFrame) (r : PicResult) (own : Bool) (w : Work) :
    (shiftNotice c src f r own w).bearings = w.bearings := by
  unfold shiftNotice
  simp only []
  repeat' split
  all_goals simp

/-! ### The picture store -/

@[simp] theorem bearings_withdrawPic (p : Producer) (w : Work) : (withdrawPic p w).bearings = w.bearings := by
  unfold withdrawPic LineIf.dropHand
  simp only []
  repeat' split
  all_goals rfl

@[simp] theorem bearings_withdrawDrop (s : Station) (w : Work) : (withdrawDrop s w).bearings = w.bearings := by
  unfold withdrawDrop
  repeat' split
  all_goals simp

@[simp] theorem bearings_storeNotice (c : Core) (before : Picture) (src : Station) (f : PicFrame) (w : Work) :
    (storeNotice c before src f w).bearings = w.bearings := by
  unfold storeNotice
  repeat' split
  all_goals first | rfl | exact bearings_withdrawDrop ..

/-! ### The hiring slot -/

@[simp] theorem bearings_fareMark (c : Core) (w : Work) : (fareMark c w).bearings = w.bearings :=
  bearings_of_still (still_fareMark ..)

@[simp] theorem bearings_seatGiven (c : Core) (i : Fin 6) (w : Work) : (seatGiven c i w).bearings = w.bearings := by
  unfold seatGiven
  simp only []
  repeat' split
  all_goals simp

@[simp] theorem bearings_enterClosing (c : Core) (w : Work) : (enterClosing c w).bearings = w.bearings :=
  bearings_fareMark ..

@[simp] theorem bearings_enterPaying (c : Core) (w : Work) : (enterPaying c w).bearings = w.bearings := by
  unfold enterPaying
  simp only []
  repeat' split
  all_goals simp

@[simp] theorem bearings_reclaimRefused (c : Core) (w : Work) : (reclaimRefused c w).bearings = w.bearings :=
  bearings_enterPaying ..

@[simp] theorem bearings_headLossHold (c : Core) (w : Work) : (headLossHold c w).bearings = w.bearings := by
  unfold headLossHold
  split
  · simp
  · rfl

@[simp] theorem bearings_reclaimDone (c : Core) (prior : Prior) (w : Work) : (reclaimDone c prior w).bearings = w.bearings := by
  unfold reclaimDone
  repeat' split
  all_goals simp

@[simp] theorem bearings_hiringOwn (c : Core) (f : PicFrame) (r : PicResult) (w : Work) :
    (hiringOwn c f r w).bearings = w.bearings := by
  unfold hiringOwn
  simp only []
  repeat' split
  all_goals first | rfl | simp

@[simp] theorem bearings_headEvent (c : Core) (b : RecBody) (w : Work) : (headEvent c b w).bearings = w.bearings := by
  unfold headEvent
  split <;> rfl

@[simp] theorem bearings_orphanResult (c : Core) (t : Tag) (r : PicResult) (w : Work) :
    (orphanResult c t r w).bearings = w.bearings := by
  unfold orphanResult
  repeat' split
  all_goals simp

@[simp] theorem bearings_hiringNotice (c : Core) (own headWas : Bool) (w : Work) :
    (hiringNotice c own headWas w).bearings = w.bearings := by
  unfold hiringNotice
  repeat' split
  all_goals first | rfl | exact bearings_headLossHold ..

@[simp] theorem bearings_hiringBlock (c : Core) (headWas : Bool) (f : PicFrame) (r : PicResult) (own : Option Offer) (w : Work) :
    (hiringBlock c headWas f r own w).bearings = w.bearings := by
  unfold hiringBlock
  simp only []
  repeat' split
  all_goals simp

/-! ### The meter unit -/

@[simp] theorem bearings_offerTime (c : Core) (setting : Bool) (w : Work) : (offerTime c setting w).bearings = w.bearings := by
  unfold offerTime
  repeat' split
  all_goals first | rfl | exact bearings_place ..

@[simp] theorem bearings_meterBlock (c : Core) (f : PicFrame) (own : Option Offer) (w : Work) :
    (meterBlock c f own w).bearings = w.bearings := by
  unfold meterBlock
  repeat' split
  all_goals simp

/-! ### The card engine -/

@[simp] theorem bearings_forwardCheck (c : Core) (w : Work) : (forwardCheck c w).bearings = w.bearings := by
  unfold forwardCheck
  simp only []
  repeat' split
  all_goals rfl

@[simp] theorem bearings_setTxn (c : Core) (st : TxnState) (w : Work) : (setTxn c st w).bearings = w.bearings := by
  unfold setTxn
  repeat' split
  all_goals simp

@[simp] theorem bearings_enterAuthWait (c : Core) (w : Work) : (enterAuthWait c w).bearings = w.bearings := by
  unfold enterAuthWait
  simp only []
  repeat' split
  all_goals simp

@[simp] theorem bearings_laneResult (c : Core) (seq : BitVec 16) (r : Option PicResult) (w : Work) :
    (laneResult c seq r w).bearings = w.bearings := by
  unfold laneResult
  repeat' split
  all_goals simp

@[simp] theorem bearings_startSending (c : Core) (w : Work) : (startSending c w).bearings = w.bearings := by
  unfold startSending
  split <;> rfl

@[simp] theorem bearings_forwardTake (c : Core) (r : Option PicResult) (w : Work) :
    (forwardTake c r w).bearings = w.bearings := by
  unfold forwardTake
  repeat' split
  all_goals simp

@[simp] theorem bearings_forwardGiven (w : Work) : (forwardGiven w).bearings = w.bearings := by
  unfold forwardGiven
  split <;> rfl

@[simp] theorem bearings_cardOwn (c : Core) (f : PicFrame) (u : Purpose) (r : PicResult) (w : Work) :
    (cardOwn c f u r w).bearings = w.bearings := by
  unfold cardOwn
  repeat' split
  all_goals simp

@[simp] theorem bearings_cardAlert (c : Core) (k : AlertKind) (t : Option Tag) (reason : Option CardReason) (value : Option Nat) (w : Work) :
    (cardAlert c k t reason value w).bearings = w.bearings :=
  bearings_raise ..

@[simp] theorem bearings_addForward (c : Core) (e : FwdEntry) (w : Work) : (addForward c e w).bearings = w.bearings :=
  bearings_statusTold ..

@[simp] theorem bearings_paid (c : Core) (w : Work) : (paid c w).bearings = w.bearings := by
  unfold paid
  simp only []
  repeat' split
  all_goals simp

@[simp] theorem bearings_cardApproved (c : Core) (amount : Nat) (approval : Option (List Byte)) (offline : Bool) (w : Work) :
    (cardApproved c amount approval offline w).bearings = w.bearings := by
  unfold cardApproved
  split
  · simp
  · rfl

@[simp] theorem bearings_tellReader (m : ReaderMsg) (w : Work) : (tellReader m w).bearings = w.bearings := rfl

@[simp] theorem bearings_stopAttempt (w : Work) : (stopAttempt w).bearings = w.bearings := rfl

@[simp] theorem bearings_enterResult (c : Core) (r : TxnResult) (text : Byte) (w : Work) :
    (enterResult c r text w).bearings = w.bearings := by
  unfold enterResult
  simp only []
  repeat' split
  all_goals simp

@[simp] theorem bearings_offlineCheck (c : Core) (w : Work) : (offlineCheck c w).bearings = w.bearings := by
  unfold offlineCheck
  simp only []
  repeat' split
  all_goals simp

@[simp] theorem bearings_leaveAuth (c : Core) (w : Work) : (leaveAuth c w).bearings = w.bearings := by
  simp [leaveAuth]

@[simp] theorem bearings_cardNotice (before : Picture) (c : Core) (w : Work) :
    (cardNotice before c w).bearings = w.bearings := by
  unfold cardNotice
  simp only []
  repeat' split
  all_goals simp

@[simp] theorem bearings_cardBlock (before : Picture) (c : Core) (f : PicFrame) (r : PicResult) (own : Option Offer) (w : Work) :
    (cardBlock before c f r own w).bearings = w.bearings := by
  unfold cardBlock
  repeat' split
  all_goals simp

/-! ### The intercom -/

@[simp] theorem bearings_startTalk (w : Work) : (startTalk w).bearings = w.bearings := rfl

@[simp] theorem bearings_floorWon (w : Work) : (floorWon w).bearings = w.bearings := by
  unfold floorWon
  simp only []
  repeat' split
  all_goals rfl

@[simp] theorem bearings_floorLost (w : Work) : (floorLost w).bearings = w.bearings := by
  unfold floorLost
  simp only []
  repeat' split
  all_goals rfl

@[simp] theorem bearings_intercomOwn (f : PicFrame) (r : PicResult) (w : Work) : (intercomOwn f r w).bearings = w.bearings := by
  unfold intercomOwn
  repeat' split
  all_goals first | rfl | simp

@[simp] theorem bearings_annJoin (c : Core) (w : Work) : (annJoin c w).bearings = w.bearings := by
  unfold annJoin
  repeat' split
  all_goals rfl

@[simp] theorem bearings_floorCheck (c : Core) (w : Work) : (floorCheck c w).bearings = w.bearings := by
  unfold floorCheck
  split
  · exact bearings_withdrawSlot ..
  · rfl

@[simp] theorem bearings_jitterCheck (c : Core) (w : Work) : (jitterCheck c w).bearings = w.bearings := by
  unfold jitterCheck
  repeat' split
  all_goals rfl

@[simp] theorem bearings_annLeave (c : Core) (w : Work) : (annLeave c w).bearings = w.bearings := by
  unfold annLeave
  split
  · exact bearings_annJoin ..
  · rfl

@[simp] theorem bearings_annCheck (c : Core) (w : Work) : (annCheck c w).bearings = w.bearings := by
  unfold annCheck
  split
  · exact bearings_annLeave ..
  · rfl

@[simp] theorem bearings_talkCut (c : Core) (w : Work) : (talkCut c w).bearings = w.bearings := by
  unfold talkCut
  split
  · simp only []
    split
    · exact bearings_withdrawSlot ..
    · exact (bearings_offerPic ..).trans (bearings_withdrawSlot ..)
  · rfl
  · split <;> rfl
  · rfl

@[simp] theorem bearings_endCall (c : Core) (emptied : Bool) (discard : Bool) (w : Work) :
    (endCall c emptied discard w).bearings = w.bearings :=
  (bearings_annJoin ..).trans (bearings_talkCut c w)

@[simp] theorem bearings_peerCheck (c : Core) (w : Work) : (peerCheck c w).bearings = w.bearings := by
  unfold peerCheck
  simp only []
  repeat' split
  all_goals simp

@[simp] theorem bearings_intercomNotice (c : Core) (w : Work) : (intercomNotice c w).bearings = w.bearings := by
  simp [intercomNotice]

@[simp] theorem bearings_intercomBlock (c0 c : Core) (f : PicFrame) (r : PicResult) (own : Option Offer) (w : Work) :
    (intercomBlock c0 c f r own w).bearings = w.bearings := by
  unfold intercomBlock
  repeat' split
  all_goals simp

/-! ### The other producers and the finishing notice -/

@[simp] theorem bearings_assistActive (c : Core) (before : Picture) (w : Work) :
    (assistActive c before w).bearings = w.bearings := by
  unfold assistActive
  repeat' split
  all_goals simp

@[simp] theorem bearings_floorAnswer (f : PicFrame) (r : PicResult) (u : Purpose) (w : Work) :
    (floorAnswer f r u w).bearings = w.bearings := by
  unfold floorAnswer
  repeat' split
  all_goals simp

@[simp] theorem bearings_hiringFinish (c : Core) (w : Work) : (hiringFinish c w).bearings = w.bearings := by
  unfold hiringFinish
  repeat' split
  all_goals simp

@[simp] theorem bearings_orphanCheck (c : Core) (w : Work) : (orphanCheck c w).bearings = w.bearings := by
  unfold orphanCheck
  simp only []
  repeat' split
  all_goals simp

@[simp] theorem bearings_shiftFinish (c : Core) (w : Work) : (shiftFinish c w).bearings = w.bearings := by
  unfold shiftFinish
  simp only []
  repeat' split
  all_goals simp

@[simp] theorem bearings_finishNotice (c : Core) (w : Work) : (finishNotice c w).bearings = w.bearings := by
  unfold finishNotice
  split
  · simp
  · rfl

@[simp] theorem bearings_announceOwn (c : Core) (f : PicFrame) (w : Work) : (announceOwn c f w).bearings = w.bearings := by
  unfold announceOwn
  repeat' split
  all_goals simp

@[simp] theorem bearings_assistOwn (f : PicFrame) (r : PicResult) (w : Work) : (assistOwn f r w).bearings = w.bearings := by
  unfold assistOwn
  repeat' split
  all_goals first | rfl | exact bearings_answerIf ..

@[simp] theorem bearings_statusCompare (c : Core) (f : PicFrame) (w : Work) : (statusCompare c f w).bearings = w.bearings := by
  unfold statusCompare
  repeat' split
  all_goals first | rfl | exact bearings_statusTold ..

@[simp] theorem bearings_ownBlock (c : Core) (f : PicFrame) (r : PicResult) (own : Option Offer) (w : Work) :
    (ownBlock c f r own w).bearings = w.bearings := by
  unfold ownBlock
  repeat' split
  all_goals simp

@[simp] theorem bearings_ownNumberHello (c : Core) (src : Station) (f : PicFrame) (own : Option Offer) (w : Work) :
    (ownNumberHello c src f own w).bearings = w.bearings := by
  unfold ownNumberHello
  repeat' split
  all_goals first | rfl | exact bearings_statusTold ..

/-! ### The whole notice -/

theorem bearings_headDrop (c : Core) (before : Picture) (s : Station) (w : Work) :
    (headDrop c before s w).bearings = w.bearings := by
  unfold headDrop
  simp only []
  repeat' split
  all_goals simp [bearings_foldl fun v (h : HiringEntry) => bearings_raise c
    { kind := .orphanHiring, origin := c.me, tag := some h.tag } v]

theorem bearings_beforeNotice (n : Node) (src : Station) (f : PicFrame) : (n.beforeNotice src f).bearings = n.w.bearings := by
  unfold Node.beforeNotice
  split
  · exact bearings_headDrop ..
  · rfl

theorem bearings_notice (c0 c : Core) (src : Station) (f : PicFrame) (r : PicResult) (own : Option Offer) (w : Work) :
    (notice c0 c src f r own w).bearings = w.bearings := by
  simp [notice]

theorem bearings_settle (c : Core) (w : Work) : (settle c w).bearings = w.bearings := bearings_of_still (still_settle ..)

theorem bearings_ownComplete (k : SlotId) (c : Core) (w : Work) : (ownComplete k c w).bearings =
    { w.bearings with lastWinner := c.me, presence := if c.serving then some w.now else w.store.presence } := rfl

/-- The pieces of the work that the bearings read, but for the line and the store. -/
theorem untouched_of_bearings {w v : Work} {last : Station} {presence : Option Time}
    (h : v.bearings = { w.bearings with lastWinner := last, presence := presence }) :
    Untouched [.slot, .card, .records, .shift, .line, .store, .join, .sign, .alerts, .call, .stream, .ports, .console] w v := by
  intro p hp
  cases p
  case now => exact (congrArg Bearings.now h :)
  case clock => exact ⟨congrArg Bearings.clock h, congrArg Bearings.valid h, congrArg Bearings.free h⟩
  case meter => exact ⟨congrArg Bearings.meter h, congrArg Bearings.running h, congrArg Bearings.lastRunning h⟩
  all_goals simp at hp

/-! ## The console's HIRE_COMMAND (12 R192) -/

theorem answerIf_asked {q : Request} {w : Work} (r : Option Reason) (h : w.con.request = some q) : answerIf q r w = answer r w :=
  if_pos h

theorem told_answer (r : Option Reason) (w : Work) : (answer r w).told = w.told ++ [r] := push_result_results w.con r

/-- An answer is the console's alone. -/
theorem Untouched.fromAnswer {but : List Piece} {r : Option Reason} {w v : Work} (h : Untouched but (answer r w) v)
    (hc : .console ∈ but) : Untouched but w v := by
  intro p hp
  have hs : p.same (answer r w) v := h p hp
  cases p
  case console => exact absurd hc hp
  all_goals exact hs

theorem settle_request (c : Core) (w : Work) : (settle c w).con.request = w.con.request :=
  (settle_untouched c w .console (by simp)).1

theorem settle_sending (c : Core) (w : Work) : (settle c w).line.sending = w.line.sending :=
  (congrArg LineIf.sending (settle_untouched c w .line (by simp)) :)

/-- The reason of 12 R192 by the marks of the HIRE_COMMAND's window. -/
theorem hireResult_station (d : Station) (m : Marks) : hireResult (resultOf (.station d) m) =
    if m.taken then none else if m.refused then some .wrongState else some .noAnswer := by
  unfold resultOf
  cases m.taken <;> cases m.refused <;> rfl

theorem hireCommand_own {s : State} {m : Marks} {k : SlotId} {o : Offer} {d : Station} {cmd : HireCmd} (ho : OnAir s.node k o)
    (hm : m.object = false) (hf : o.frame = .hireCommand d cmd) (hq : s.node.w.con.request = some .hire) :
    exec (.frameOutcome m) s = .next ⟨s.pending, ⟨s.node.core, settle s.node.core
      (answer (hireResult (resultOf (.station d) m)) (ownComplete k s.node.core s.node.w))⟩⟩ := by
  have hw : workOutcome s.node.core o (resultOf o.frame.dest m) (ownComplete k s.node.core s.node.w) =
      answer (hireResult (resultOf (.station d) m)) (ownComplete k s.node.core s.node.w) := by
    simp only [workOutcome, hf]
    exact answerIf_asked _ hq
  show onNode (frameOutcome m) s = _
  have hair := ho
  obtain ⟨-, -, hleaving, hdead⟩ := ho
  rw [onNode_next, frameOutcome_onAir hair hm, returned_work hleaving hdead (by simp [hf]) (by simp [hf])]
  exact congrArg (fun w : Work => Host.Outcome.next (State.mk s.pending ⟨s.node.core, settle s.node.core w⟩)) hw

/-! ## A picture frame (01 R6) -/

theorem returned_pic {o : Offer} {f : PicFrame} {n : Node} (hl : o.leaving = false) (hd : o.dead = false) (hf : o.frame = .pic f)
    (hs : n.core.serving = true) : returned o .applied n = applyFrame n.core.me f (some o) n := by
  unfold returned
  simp only [hl, hd, hf, hs, Bool.false_eq_true, if_false, if_true]

theorem duplicated_own (me src : Station) (f : PicFrame) (o : Offer) : duplicated me src f (some o) = false := by
  cases f <;> rfl

/-- The work once this node's own picture frame has been applied (01 R6 to R8). -/
def Node.ownNoticed (n : Node) (k : SlotId) (o : Offer) (f : PicFrame) : Work :=
  let c := n.core
  settle (c.applied c.me f) (notice c (c.applied c.me f) c.me f (c.view.apply c.me f).2 (some o)
    (Node.beforeNotice ⟨c, ownComplete k c n.w⟩ c.me f))

theorem bearings_ownNoticed (n : Node) (k : SlotId) (o : Offer) (f : PicFrame) : (n.ownNoticed k o f).bearings =
    { n.w.bearings with lastWinner := n.core.me, presence := if n.core.serving then some n.w.now else n.w.store.presence } := by
  unfold Node.ownNoticed
  rw [bearings_settle, bearings_notice, bearings_beforeNotice, bearings_ownComplete]

theorem pic_own {s : State} {m : Marks} {k : SlotId} {o : Offer} {f : PicFrame} (ho : OnAir s.node k o) (hm : m.object = false)
    (hf : o.frame = .pic f) (hs : s.node.core.serving = true) (hdrop : f ≠ .drop s.node.core.me)
    (hrank : outranked s.node.core s.node.core.view (s.node.core.view.apply s.node.core.me f).1 s.node.core.me = false) :
    exec (.frameOutcome m) s =
      .next ⟨s.pending, ⟨s.node.core.applied s.node.core.me f, s.node.ownNoticed k o f⟩⟩ := by
  have hr : resultOf o.frame.dest m = .applied := by
    rw [hf]
    rfl
  have hair := ho
  obtain ⟨-, -, hleaving, hdead⟩ := ho
  have hback := (returned_pic (n := ⟨s.node.core, ownComplete k s.node.core s.node.w⟩) hleaving hdead hf hs).trans
    (applyFrame_stays _ _ _ _ hdrop (duplicated_own ..) hrank)
  show onNode (frameOutcome m) s = _
  rw [onNode_next, frameOutcome_onAir hair hm, hr, hback]
  rfl

theorem frameCommand_own {s : State} {src : Station} {f : PicFrame} (hf : s.node.sends src (.pic f) = true) :
    exec (frameCommand src f) s = exec (.frameOutcome ⟨false, false, false⟩) s := by
  cases f <;> exact congrArg Host.Outcome.next (congrArg (State.mk s.pending) (broadcast_own _ _ _ _ hf))

/-- Settles O13: the console's HIRE_COMMAND is answered by its window, and a picture frame applied gives every block its
notice, which leaves the bearings. -/
theorem ownFrameOutcome : Obligations.OwnFrameOutcome := by
  refine ⟨fun s m k o d cmd ho hm hf hq => ?_, fun s m k o f ho hm hf hs hdrop hrank => ?_, fun s src f hf => frameCommand_own hf⟩
  · have hu := settle_untouched s.node.core (answer (hireResult (resultOf (.station d) m)) (ownComplete k s.node.core s.node.w))
    refine ⟨_, hireCommand_own ho hm hf hq, rfl, rfl, settle_request .., ?_, hu.lastWinner (by simp), settle_sending .., ?_⟩
    · rw [← hireResult_station d m]
      exact (told_settle ..).trans (told_answer ..)
    · exact ((hu.mono (by simp)).fromAnswer (by simp)).fromOffLine (offLine_ownComplete ..) (by simp) (by simp)
  · have hb := bearings_ownNoticed s.node k o f
    exact ⟨_, pic_own ho hm hf hs hdrop hrank, rfl, rfl, congrArg Bearings.lastWinner hb,
      (congrArg Bearings.presence hb).trans (if_pos hs), untouched_of_bearings hb⟩

end Sys2Proof.Machine
